-- ==== Sys2Proof/Word.lean ====
section
/-! DEFINITION. The word types of the NT-40: bytes on the line, 64-bit cipher blocks and keys, 40-bit meter patterns. -/

namespace Sys2Proof

/-- A byte of a frame (R165, R175). -/
abbrev Byte := BitVec 8

/-- A 64-bit block or key of the token cipher (R41). -/
abbrev Block := BitVec 64

/-- The high 24 bits of an enciphered zero block: a key's check value (R32). -/
abbrev CheckValue := BitVec 24

/-- A CRC-16 (chapter 00, conventions). -/
abbrev Crc := BitVec 16

/-- A 40-bit pattern of a zone entry (R26). -/
abbrev Pattern := BitVec 40

end Sys2Proof
end

