-- ==== Sys2Proof/Config.lean ====
section
/-! DEFINITION. What the part fixes once (sizes and limits of the manual) and the free values the manual leaves open. -/

namespace Sys2Proof.Config

/-- The largest meter number (R10). -/
def maxMeter : Nat := 999999999999
/-- Record slots of the account store (R8). -/
def slotCount : Nat := 4096
/-- Entries the directory holds at most (R10). -/
def maxEntries : Nat := 4000
/-- Replies the reply queue holds at most (R149, R173). -/
def replyPlaces : Nat := 16
/-- Requests a lane queue holds at most (R142). -/
def queuePlaces : Nat := 4
/-- The clock's last minute (R131, R133). -/
def lastMinute : Nat := 16777215
/-- The last trading month (R131, R138). -/
def lastMonth : Nat := 4095
/-- The highest hold level (R153). -/
def maxHold : Nat := 6
/-- Cipher uses between two self-tests (R43). -/
def usesPerTest : Nat := 256
/-- Where a settlement accumulator saturates (R121). -/
def maxTotal : Nat := 1099511627775
/-- The largest tender, restricted cap, arrears and countersign threshold, in cents (R1, R54, R95, R129). -/
def maxCents : Nat := 10000000
/-- The largest float ceiling and grant amount, in cents (R115, R125). -/
def maxFloat : Nat := 1000000000
/-- The largest month units and monthly ceiling, in tenths (R1, R46). -/
def maxUnits : Nat := 60000
/-- The largest free allocation, in tenths (R2, R46). -/
def maxFree : Nat := 2000
/-- The largest carry, in milli-cents (R1). -/
def maxCarry : Nat := 99999
/-- How far token identifiers may run ahead of the clock (R73, R98). -/
def runAhead : Nat := 64
/-- The key of the known-answer test (R44). -/
def testKey : Block := 0x0123456789ABCDEF
/-- The plain block of the known-answer test (R44). -/
def testPlain : Block := 0
/-- The expected result of the known-answer test (R44). -/
def testExpected : Block := 0x3B93AE3391C1AD39

/-- FREE VALUE: the contents of the free-running LFSR at its n-th reading (R94 gives neither its taps nor its clocking).
DESIGN CHOICE, notes/assumptions/6. Safe: nothing evaluates it. -/
opaque lfsr : Nat → BitVec 16

/-- FREE VALUE: the byte that stands at an offset of the n-th reply where a mark of absence leaves the field's content open (R175).
DESIGN CHOICE, notes/assumptions/7. Safe: nothing evaluates it. -/
opaque filler : Nat → Nat → Byte

/-- FREE VALUE: whether, of two faults raised by one failure, the STORE_WRITE arrives first (R155: 'in whichever order they come').
DESIGN CHOICE, notes/assumptions/8. Safe: nothing evaluates it. -/
opaque storeWriteFirst : Nat → Bool

end Sys2Proof.Config
end

