-- ==== Sys2Proof/Syntax.lean ====
section
/-! DEFINITION. The commands of the NT-40: one constructor of `Instr` for each row of spec/opcode_table.json. -/

namespace Sys2Proof

/-- A character as the receiver samples it: its data bits, the bit in the parity place, and the first stop bit (R165, R166). The settings
it is sampled at are the receive shift register's (`Olk.shift`). -/
structure LineChar where
  data : Byte
  parityBit : Bool
  stopBit : Bool
deriving DecidableEq, Repr

/-- A request as a lane queue holds it (R142): the tag, the kind byte and the payload. The lane is the queue's own. -/
structure Request where
  tag : Nat
  kind : Nat
  payload : List Byte
deriving DecidableEq, Repr

/-- The request kinds of the catalogue (R175). -/
inductive Kind
  | query | list | verify | quote | issue | withdraw | reprint
  | enrol | retire | amend | suspend | resume | restore | countersign
  | loadPlan | armPlans | zoneSet | keyLoad | keyRoll | setClock | setBoundary
  | grant | statement | setHold | ackFault | laneLevel | setCountersign | setLimits
  | lock | unlock | zeroise | status | setLink
deriving DecidableEq, Repr

/-- The fields of an AMEND after the meter, as sent (R21, R175): the presence bits, then the values. -/
structure AmendFields where
  present : Nat
  plan : Nat
  arrears : Nat
  rate : Nat
  eligible : Nat
  revision : Nat
deriving DecidableEq, Repr

/-- The fields of a RESTORE after the meter, as sent (R19, R175). -/
structure RestoreFields where
  state : Nat
  zone : Nat
  plan : Nat
  revision : Nat
  flags : Nat
  stamp : Nat
  units : Nat
  arrears : Nat
  rate : Nat
  carry : Nat
  firstTid : Nat
  count : Nat
  credit : Nat
  free : Nat
  fromRev : Nat
  toRev : Nat
deriving DecidableEq, Repr

/-- The fields of a LOAD PLAN after the clear mark, as sent (R48, R175). -/
structure PlanFields where
  fixed : Nat
  minimum : Nat
  ceiling : Nat
  free : Nat
  blocks : Nat
  bound1 : Nat
  bound2 : Nat
  bound3 : Nat
  price1 : Nat
  price2 : Nat
  price3 : Nat
  price4 : Nat
deriving DecidableEq, Repr

/-- The fields of a ZONE SET after the zone index, as sent (R29, R175). -/
structure ZoneFields where
  action : Nat
  value : Nat
  mask : Nat
  group : Nat
  keys : Nat
  currentRev : Nat
  currentSlot : Nat
  previousRev : Nat
  previousSlot : Nat
deriving DecidableEq, Repr

/-- The commands. A request carries its lane and tag and then its payload fields, each the number its bytes spell. -/
inductive Instr
  /-- QUERY (R24). -/
  | query (lane tag meter : Nat)
  /-- LIST (R25). -/
  | list (lane tag start : Nat)
  /-- VERIFY (R112). -/
  | verify (lane tag meter token : Nat)
  /-- QUOTE (R71). -/
  | quote (lane tag meter tender : Nat)
  /-- ISSUE (R79). -/
  | issue (lane tag : Nat)
  /-- WITHDRAW (R85). -/
  | withdraw (lane tag : Nat)
  /-- REPRINT (R108). -/
  | reprint (lane tag meter : Nat)
  /-- ENROL (R16). -/
  | enrol (lane tag meter plan revision eligible arrears rate : Nat)
  /-- RETIRE (R18). -/
  | retire (lane tag meter writeOff : Nat)
  /-- AMEND (R21). -/
  | amend (lane tag meter : Nat) (f : AmendFields)
  /-- SUSPEND (R22). -/
  | suspend (lane tag meter : Nat)
  /-- RESUME (R23). -/
  | resume (lane tag meter : Nat)
  /-- RESTORE (R19). -/
  | restore (lane tag meter : Nat) (f : RestoreFields)
  /-- COUNTERSIGN (R96). -/
  | countersign (lane tag counter : Nat)
  /-- LOAD PLAN (R48). -/
  | loadPlan (lane tag index clear : Nat) (f : PlanFields)
  /-- ARM PLANS (R50). -/
  | armPlans (lane tag disarm month : Nat)
  /-- ZONE SET (R29). -/
  | zoneSet (lane tag zone : Nat) (f : ZoneFields)
  /-- KEY LOAD (R34). -/
  | keyLoad (lane tag slot key check : Nat)
  /-- KEY ROLL (R31). -/
  | keyRoll (lane tag zone slot : Nat)
  /-- SET CLOCK (R135). -/
  | setClock (lane tag minute : Nat)
  /-- SET BOUNDARY (R137). -/
  | setBoundary (lane tag clear minute : Nat)
  /-- GRANT (R126). -/
  | grant (lane tag sequence amount hours number auth : Nat)
  /-- STATEMENT (R124). -/
  | statement (lane tag again : Nat)
  /-- SET HOLD (R156). -/
  | setHold (lane tag level : Nat)
  /-- ACK FAULT (R157). -/
  | ackFault (lane tag : Nat)
  /-- LANE LEVEL (R144). -/
  | laneLevel (lane tag counter level : Nat)
  /-- SET COUNTERSIGN (R95). -/
  | setCountersign (lane tag period threshold : Nat)
  /-- SET LIMITS (R129). -/
  | setLimits (lane tag ceiling cap lease : Nat)
  /-- LOCK (R159). -/
  | lock (lane tag key : Nat)
  /-- UNLOCK (R160). -/
  | unlock (lane tag key : Nat)
  /-- ZEROISE (R161). -/
  | zeroise (lane tag : Nat)
  /-- STATUS (R163). -/
  | status (lane tag : Nat)
  /-- SET LINK (R174). -/
  | setLink (lane tag divisor parity stopBits : Nat)
  /-- A request whose kind byte is not in the catalogue (R150). -/
  | unknownRequestKind (lane tag kind : Nat) (payload : List Byte)
  /-- The characters of a frame end on the receive wire, one after another (R166 to R168). -/
  | frameReceived (chars : List LineChar)
  /-- Four character times pass without a character (R169). -/
  | interByteTimeout
  /-- A waiting answer of the office link takes a free place (R170). -/
  | linkAnswerPlaced
  /-- The last stop bit of the first reply is sent (R173). -/
  | replySent
  /-- The receive wire has been low for three character times (R171). -/
  | linkBreak
  /-- The lease expiry of a lane's quote arrives (R77). -/
  | leaseExpiry (lane : Nat)
  /-- The reconcile deadline's expiry arrives (R120). -/
  | deadlineExpiry
  /-- The month roll arrives (R138). -/
  | monthRoll
  /-- A failed month roll is taken again (R139). -/
  | monthRollRetry
  /-- The clock stops at its end (R133). -/
  | clockEnd
  /-- A moving step of an ENROLLING change (R11). -/
  | enrolMoveStep
  /-- The placing step of an ENROLLING change (R11). -/
  | placingStep
  /-- A moving step of a RETIRING change (R12). -/
  | retireMoveStep
  /-- The closing step of a RETIRING change (R12). -/
  | closingStep
  /-- A failed erasing write of a slot is made again (R36). -/
  | keyEraseRetry (slot : Nat)
  /-- A pending zeroise write is made again (R161). -/
  | zeroiseRetry
  /-- The tamper input is asserted (R162). -/
  | tamperZeroise
  /-- Supply comes on, or the reset input is asserted (R164). -/
  | powerOnReset
  /-- 14,745,600 crystal cycles have passed (R132). -/
  | clockSecond
  /-- A character ends on the receive wire (R166). -/
  | characterReceived (c : LineChar)
  /-- The tamper input is released (R162). -/
  | tamperReleased
  /-- The receive wire has returned high after a break (R171). -/
  | receiveWireReturnsHigh
  /-- Supply is lost (R84). -/
  | supplyLoss
deriving DecidableEq, Repr

end Sys2Proof
end

