-- ==== Sys2Proof/Decode.lean ====
section
/-! DEFINITION. The request catalogue of R175 read both ways: the command a queued request spells, and the request a command is sent as.
No row of spec/opcode_table.json gives bits, so no table word spells a command. -/

namespace Sys2Proof

/-- `n` bytes, most significant first (R175). -/
def beBytes : Nat → Nat → List Byte
  | 0, _ => []
  | n + 1, v => BitVec.ofNat 8 (v / 256 ^ n) :: beBytes n v

/-- The number a list of bytes spells, most significant first (R175). -/
def ofBytes (bs : List Byte) : Nat := bs.foldl (fun a b => a * 256 + b.toNat) 0

/-- Cut a payload into fields of the widths given, each the number its bytes spell. None when the lengths differ. -/
def cutFields : List Nat → List Byte → Option (List Nat)
  | [], [] => some []
  | [], _ :: _ => none
  | w :: ws, bs =>
    if bs.length < w then none else (cutFields ws (bs.drop w)).map (ofBytes (bs.take w) :: ·)

/-- A field of a payload: its width in bytes and its value. -/
abbrev Field := Nat × Nat

/-- The bytes of a list of fields, in order. -/
def fieldBytes (fs : List Field) : List Byte := fs.flatMap fun f => beBytes f.1 f.2

/-- The kind byte of a request kind (R175). -/
def Kind.code : Kind → Nat
  | .query => 0x01 | .list => 0x02 | .verify => 0x03 | .quote => 0x04 | .issue => 0x05 | .withdraw => 0x06 | .reprint => 0x07
  | .enrol => 0x10 | .retire => 0x11 | .amend => 0x12 | .suspend => 0x13 | .resume => 0x14 | .restore => 0x15 | .countersign => 0x16
  | .loadPlan => 0x17 | .armPlans => 0x18 | .zoneSet => 0x19 | .keyLoad => 0x1A | .keyRoll => 0x1B | .setClock => 0x1C
  | .setBoundary => 0x1D | .grant => 0x1E | .statement => 0x1F | .setHold => 0x20 | .ackFault => 0x21 | .laneLevel => 0x22
  | .setCountersign => 0x23 | .setLimits => 0x24 | .lock => 0x25 | .unlock => 0x26 | .zeroise => 0x27 | .status => 0x28
  | .setLink => 0x29

/-- The request kinds in the order of their codes. -/
def Kind.all : List Kind :=
  [.query, .list, .verify, .quote, .issue, .withdraw, .reprint, .enrol, .retire, .amend, .suspend, .resume, .restore, .countersign,
   .loadPlan, .armPlans, .zoneSet, .keyLoad, .keyRoll, .setClock, .setBoundary, .grant, .statement, .setHold, .ackFault, .laneLevel,
   .setCountersign, .setLimits, .lock, .unlock, .zeroise, .status, .setLink]

/-- The request kind a kind byte names, if it names one (R150, R168). -/
def Kind.ofCode (c : Nat) : Option Kind := Kind.all.find? fun k => k.code == c

/-- The field widths of a kind's request payload (R175). -/
def Kind.widths : Kind → List Nat
  | .query => [5] | .list => [5] | .verify => [5, 8] | .quote => [5, 4] | .issue => [] | .withdraw => [] | .reprint => [5]
  | .enrol => [5, 1, 1, 1, 4, 1] | .retire => [5, 1] | .amend => [5, 1, 1, 4, 1, 1, 1] | .suspend => [5] | .resume => [5]
  | .restore => [5, 1, 1, 1, 1, 1, 2, 2, 4, 1, 3, 3, 1, 2, 2, 1, 1] | .countersign => [1]
  | .loadPlan => [1, 1, 4, 4, 2, 2, 1, 2, 2, 2, 4, 4, 4, 4] | .armPlans => [1, 2] | .zoneSet => [1, 1, 5, 5, 1, 1, 1, 1, 1, 1]
  | .keyLoad => [1, 8, 3] | .keyRoll => [1, 1] | .setClock => [3] | .setBoundary => [1, 3] | .grant => [2, 4, 2, 2, 8]
  | .statement => [1] | .setHold => [1] | .ackFault => [] | .laneLevel => [1, 1] | .setCountersign => [2, 4] | .setLimits => [4, 4, 2]
  | .lock => [8] | .unlock => [8] | .zeroise => [] | .status => [] | .setLink => [1, 1, 1]

/-- The payload length the catalogue gives a kind (R168, check 3). -/
def Kind.payloadLength (k : Kind) : Nat := k.widths.sum

/-- The lanes that may send a kind (R150, R175): a counter lane, and the supervisor lane. -/
def Kind.onCounter : Kind → Bool
  | .query | .list | .verify | .quote | .issue | .withdraw | .reprint => true
  | _ => false

/-- Whether the supervisor lane may send a kind (R150, R175). -/
def Kind.onSupervisor : Kind → Bool
  | .quote | .issue | .withdraw | .reprint => false
  | _ => true

/-- A request command: its lane, its tag, its kind and its payload fields in the catalogue's order (R175). -/
structure Sent where
  lane : Nat
  tag : Nat
  kind : Kind
  fields : List Field
deriving DecidableEq, Repr

/-- What a request command sends (R175). None for a command that is no request of the catalogue. -/
def Instr.sent : Instr → Option Sent
  | .query l t m => some ⟨l, t, .query, [(5, m)]⟩
  | .list l t m => some ⟨l, t, .list, [(5, m)]⟩
  | .verify l t m k => some ⟨l, t, .verify, [(5, m), (8, k)]⟩
  | .quote l t m c => some ⟨l, t, .quote, [(5, m), (4, c)]⟩
  | .issue l t => some ⟨l, t, .issue, []⟩
  | .withdraw l t => some ⟨l, t, .withdraw, []⟩
  | .reprint l t m => some ⟨l, t, .reprint, [(5, m)]⟩
  | .enrol l t m p r e a w => some ⟨l, t, .enrol, [(5, m), (1, p), (1, r), (1, e), (4, a), (1, w)]⟩
  | .retire l t m w => some ⟨l, t, .retire, [(5, m), (1, w)]⟩
  | .amend l t m f =>
      some ⟨l, t, .amend, [(5, m), (1, f.present), (1, f.plan), (4, f.arrears), (1, f.rate), (1, f.eligible), (1, f.revision)]⟩
  | .suspend l t m => some ⟨l, t, .suspend, [(5, m)]⟩
  | .resume l t m => some ⟨l, t, .resume, [(5, m)]⟩
  | .restore l t m f =>
      some ⟨l, t, .restore, [(5, m), (1, f.state), (1, f.zone), (1, f.plan), (1, f.revision), (1, f.flags), (2, f.stamp), (2, f.units),
        (4, f.arrears), (1, f.rate), (3, f.carry), (3, f.firstTid), (1, f.count), (2, f.credit), (2, f.free), (1, f.fromRev), (1, f.toRev)]⟩
  | .countersign l t k => some ⟨l, t, .countersign, [(1, k)]⟩
  | .loadPlan l t x c f =>
      some ⟨l, t, .loadPlan, [(1, x), (1, c), (4, f.fixed), (4, f.minimum), (2, f.ceiling), (2, f.free), (1, f.blocks),
        (2, f.bound1), (2, f.bound2), (2, f.bound3), (4, f.price1), (4, f.price2), (4, f.price3), (4, f.price4)]⟩
  | .armPlans l t d m => some ⟨l, t, .armPlans, [(1, d), (2, m)]⟩
  | .zoneSet l t z f =>
      some ⟨l, t, .zoneSet, [(1, z), (1, f.action), (5, f.value), (5, f.mask), (1, f.group), (1, f.keys), (1, f.currentRev),
        (1, f.currentSlot), (1, f.previousRev), (1, f.previousSlot)]⟩
  | .keyLoad l t x k c => some ⟨l, t, .keyLoad, [(1, x), (8, k), (3, c)]⟩
  | .keyRoll l t z x => some ⟨l, t, .keyRoll, [(1, z), (1, x)]⟩
  | .setClock l t m => some ⟨l, t, .setClock, [(3, m)]⟩
  | .setBoundary l t c m => some ⟨l, t, .setBoundary, [(1, c), (3, m)]⟩
  | .grant l t q a h n k => some ⟨l, t, .grant, [(2, q), (4, a), (2, h), (2, n), (8, k)]⟩
  | .statement l t r => some ⟨l, t, .statement, [(1, r)]⟩
  | .setHold l t v => some ⟨l, t, .setHold, [(1, v)]⟩
  | .ackFault l t => some ⟨l, t, .ackFault, []⟩
  | .laneLevel l t k v => some ⟨l, t, .laneLevel, [(1, k), (1, v)]⟩
  | .setCountersign l t p h => some ⟨l, t, .setCountersign, [(2, p), (4, h)]⟩
  | .setLimits l t c k e => some ⟨l, t, .setLimits, [(4, c), (4, k), (2, e)]⟩
  | .lock l t k => some ⟨l, t, .lock, [(8, k)]⟩
  | .unlock l t k => some ⟨l, t, .unlock, [(8, k)]⟩
  | .zeroise l t => some ⟨l, t, .zeroise, []⟩
  | .status l t => some ⟨l, t, .status, []⟩
  | .setLink l t d p b => some ⟨l, t, .setLink, [(1, d), (1, p), (1, b)]⟩
  | _ => none

/-- The lane a request command is sent on and the request its frame carries (R142). None for a command that is no request. -/
def Instr.request : Instr → Option (Nat × Request)
  | .unknownRequestKind lane tag kind payload => some (lane, ⟨tag, kind, payload⟩)
  | i => i.sent.map fun x => (x.lane, ⟨x.tag, x.kind.code, fieldBytes x.fields⟩)

/-- The command of a kind whose payload spells the fields given. -/
def Kind.command (lane tag : Nat) : Kind → List Nat → Option Instr
  | .query, [m] => some (.query lane tag m)
  | .list, [m] => some (.list lane tag m)
  | .verify, [m, k] => some (.verify lane tag m k)
  | .quote, [m, c] => some (.quote lane tag m c)
  | .issue, [] => some (.issue lane tag)
  | .withdraw, [] => some (.withdraw lane tag)
  | .reprint, [m] => some (.reprint lane tag m)
  | .enrol, [m, p, r, e, a, w] => some (.enrol lane tag m p r e a w)
  | .retire, [m, w] => some (.retire lane tag m w)
  | .amend, [m, h, p, a, w, e, r] => some (.amend lane tag m ⟨h, p, a, w, e, r⟩)
  | .suspend, [m] => some (.suspend lane tag m)
  | .resume, [m] => some (.resume lane tag m)
  | .restore, [m, s, z, p, r, g, d, u, a, w, c, i, n, e, f, x, y] =>
      some (.restore lane tag m ⟨s, z, p, r, g, d, u, a, w, c, i, n, e, f, x, y⟩)
  | .countersign, [k] => some (.countersign lane tag k)
  | .loadPlan, [x, c, f, m, e, g, n, b1, b2, b3, p1, p2, p3, p4] =>
      some (.loadPlan lane tag x c ⟨f, m, e, g, n, b1, b2, b3, p1, p2, p3, p4⟩)
  | .armPlans, [d, m] => some (.armPlans lane tag d m)
  | .zoneSet, [z, a, v, k, g, p, cr, cs, pr, ps] => some (.zoneSet lane tag z ⟨a, v, k, g, p, cr, cs, pr, ps⟩)
  | .keyLoad, [x, k, c] => some (.keyLoad lane tag x k c)
  | .keyRoll, [z, x] => some (.keyRoll lane tag z x)
  | .setClock, [m] => some (.setClock lane tag m)
  | .setBoundary, [c, m] => some (.setBoundary lane tag c m)
  | .grant, [q, a, h, n, k] => some (.grant lane tag q a h n k)
  | .statement, [r] => some (.statement lane tag r)
  | .setHold, [v] => some (.setHold lane tag v)
  | .ackFault, [] => some (.ackFault lane tag)
  | .laneLevel, [k, v] => some (.laneLevel lane tag k v)
  | .setCountersign, [p, h] => some (.setCountersign lane tag p h)
  | .setLimits, [c, k, e] => some (.setLimits lane tag c k e)
  | .lock, [k] => some (.lock lane tag k)
  | .unlock, [k] => some (.unlock lane tag k)
  | .zeroise, [] => some (.zeroise lane tag)
  | .status, [] => some (.status lane tag)
  | .setLink, [d, p, b] => some (.setLink lane tag d p b)
  | _, _ => none

/-- The command that a request of a lane queue spells: the catalogue's, or a request of an unknown kind (R150). -/
def Request.command (lane : Nat) (r : Request) : Instr :=
  ((Kind.ofCode r.kind).bind fun k => (cutFields k.widths r.payload).bind (k.command lane r.tag)).getD
    (.unknownRequestKind lane r.tag r.kind r.payload)

/-- The command a word of spec/opcode_table.json spells: no row of the table gives bits, so none (notes/assumptions/30). -/
def decodeTableWord (_nbits _w : Nat) : Option Instr := none

end Sys2Proof
end

