-- ==== Sys2Proof/Machine/State.lean ====
section
/-! DEFINITION. Everything the part holds, as plain data, block by block (chapter 00's block table), and the part right after reset. -/

namespace Sys2Proof.Machine

/-! ### Account store and directory (chapter 01) -/

/-- A record's state (R1). -/
inductive RecordState | active | suspended
deriving DecidableEq, Repr, Inhabited

/-- The key change of a token set: the revision the meter held and the one it is to hold (R2). -/
structure KeyChange where
  fromRev : Nat
  toRev : Nat
deriving DecidableEq, Repr, Inhabited

/-- The last issue sub-record (R2). -/
structure LastIssue where
  firstTid : Nat
  count : Nat
  credit : Nat
  free : Nat
  change : Option KeyChange
deriving DecidableEq, Repr, Inhabited

/-- A meter account record (R1), the check code last. -/
structure Record where
  meter : Nat
  state : RecordState
  zone : Nat
  plan : Nat
  revision : Nat
  eligible : Bool
  stamp : Nat
  units : Nat
  fixed : Bool
  taken : Bool
  arrears : Nat
  rate : Nat
  carry : Nat
  lastTid : Option Nat
  issue : Option LastIssue
  check : Crc
deriving DecidableEq, Repr, Inhabited

/-- What a slot that nothing has written reads as. DESIGN CHOICE, notes/assumptions/11, unsafe. -/
def blankRecord : Record := ⟨0, .active, 0, 0, 0, false, 0, 0, false, false, 0, 0, 0, none, none, 0⟩

/-- The written slots, by rising slot number, none equal to the blank record (`Store.wf`). -/
abbrev Store := List (Nat × Record)

/-- The account store: its slots and the free pool (R8). The pool's order is the model's own (notes/assumptions/9). -/
structure Ast where
  slots : Store
  free : List Nat
deriving DecidableEq, Repr

/-- A directory entry (R10). -/
structure Entry where
  meter : Nat
  slot : Nat
  quarantined : Bool
deriving DecidableEq, Repr, Inhabited

/-- The directory's pending change (R11, R12). -/
inductive Change
  | enrolling (meter slot : Nat) (quarantined : Bool) (position cursor : Nat)
  | retiring (meter slot cursor : Nat)
deriving DecidableEq, Repr

/-- The directory: the entries in the positions the steps have left them, and the pending change (R10, R11). -/
structure Dir where
  entries : List Entry
  change : Option Change
deriving DecidableEq, Repr

/-! ### Quote table (chapter 04) -/

/-- A quote's state (R70). -/
inductive QuoteState | opened | held | issuing
deriving DecidableEq, Repr, Inhabited

/-- A revision and the slot that holds its base key (R26, R69). -/
structure KeyRef where
  rev : Nat
  slot : Nat
deriving DecidableEq, Repr, Inhabited

/-- A quote (R69). -/
structure Quote where
  lane : Nat
  meter : Nat
  live : Nat
  shadow : Nat
  offered : Nat
  accepted : Nat
  fixed : Nat
  recovery : Nat
  energy : Nat
  free : Nat
  clamped : Bool
  restricted : Bool
  change : Option KeyRef
  key : KeyRef
  count : Nat
  month : Nat
  generation : Nat
  leaseMinute : Nat
  leaseSecond : Nat
  state : QuoteState
  review : Bool
  threshold : Bool
deriving DecidableEq, Repr, Inhabited

/-- The review counter (R92). -/
inductive Review
  | counting (value : Nat)
  | pending
  | stopped (lane : Nat)
deriving DecidableEq, Repr

/-- The quote table, the review counter and the retained review settings (R69, R92, R95). -/
structure Qtb where
  quotes : Vector (Option Quote) 8
  review : Review
  period : Nat
  threshold : Nat
deriving DecidableEq, Repr

/-! ### Zone map, key store and cipher (chapter 02) -/

/-- A zone entry's action (R26). -/
inductive ZoneAction | unused | accept | embargo
deriving DecidableEq, Repr, Inhabited

/-- A zone entry (R26). -/
structure Zone where
  action : ZoneAction
  value : Pattern
  mask : Pattern
  group : Nat
  current : Option KeyRef
  previous : Option KeyRef
deriving DecidableEq, Repr, Inhabited

/-- A key slot (R32). -/
inductive KeySlot
  | empty
  | loaded (key : Block) (check : CheckValue)
  | erased
deriving DecidableEq, Repr, Inhabited

/-- The zone map, the key slots, and the slots whose erasing write has yet to be made (R26, R32, R36). -/
structure Zks where
  zones : Vector Zone 16
  slots : Vector KeySlot 16
  erasing : List Nat
deriving DecidableEq, Repr

/-- The token cipher unit: whether its last self-test passed, and its use counter (R43, R45). -/
structure Tcu where
  passed : Bool
  uses : Nat
deriving DecidableEq, Repr

/-! ### Tariff tables (chapter 03) -/

/-- A plan (R46): the blocks that have a bound, as (bound, price) in order, and the price of the last block. -/
structure Plan where
  fixed : Nat
  minimum : Nat
  ceiling : Nat
  free : Nat
  bounded : List (Nat × Nat)
  lastPrice : Nat
deriving DecidableEq, Repr, Inhabited

/-- A bank of plans (R47). -/
abbrev Bank := Vector (Option Plan) 16

/-- The tariff tables (R47). -/
structure Ttb where
  active : Bank
  staged : Bank
  armed : Option Nat
  generation : Nat
deriving DecidableEq, Repr

/-! ### Float unit (chapter 06) -/

/-- The six settlement accumulators (R121). -/
structure Totals where
  tokens : Nat
  credit : Nat
  free : Nat
  tender : Nat
  fixed : Nat
  recovery : Nat
deriving DecidableEq, Repr, Inhabited

/-- A statement record with its authenticator (R123, R124). -/
structure Statement where
  number : Nat
  minute : Nat
  totals : Totals
  auth : Block
deriving DecidableEq, Repr

/-- The float unit (R115). `noted`: the present deadline's expiry has arrived (R120, notes/assumptions/19). -/
structure Flt where
  balance : Nat
  reserved : Nat
  ceiling : Nat
  cap : Nat
  lease : Nat
  deadline : Option Nat
  noted : Bool
  sequence : Nat
  number : Nat
  totals : Totals
  last : Option Statement
deriving DecidableEq, Repr

/-! ### Office clock (chapter 07) -/

/-- The office clock (R131). `rollWaiting`: a roll whose write failed waits to be taken again (R139). -/
structure Clk where
  second : Nat
  minute : Nat
  month : Nat
  boundary : Option Nat
  rollWaiting : Bool
deriving DecidableEq, Repr

/-! ### Fault monitor (chapter 09) -/

/-- The fault kinds (R154). -/
inductive FaultKind | recordCheck | storeWrite | keyCheck | cipherTest
deriving DecidableEq, Repr

/-- What the fault monitor did with a fault (R155). -/
inductive FaultCase | pushed | reportedOnly | lockedPart
deriving DecidableEq, Repr

/-- A hold stack entry (R153). -/
structure HoldEntry where
  saved : Nat
  kind : FaultKind
  level : Nat
deriving DecidableEq, Repr

/-- The latest fault (R153). -/
structure LatestFault where
  kind : FaultKind
  level : Nat
  minute : Nat
  acted : FaultCase
deriving DecidableEq, Repr

/-- The fault monitor (R153). The stack's top entry comes first; `locked` is the part state LOCKED. -/
structure Fmn where
  hold : Nat
  stack : List HoldEntry
  locked : Bool
  latest : Option LatestFault
  zeroisePending : Bool
  configLock : Bool
  lockKey : Block
deriving DecidableEq, Repr

/-! ### Lane queues and arbiter, sales engine (chapter 08) -/

/-- An outcome note (R151). -/
inductive Note | none | expired | voided
deriving DecidableEq, Repr, Inhabited

/-- The lane queues and the arbiter (R142, R143, R148, R151): queues of lanes 0 to 8, levels and notes of lanes 1 to 8, turn
pointers of levels 1 to 6. -/
structure Lqa where
  queues : Vector (List Request) 9
  levels : Vector Nat 8
  notes : Vector Note 8
  pointers : Vector Nat 6
deriving DecidableEq, Repr

/-- The request the sales engine is serving, whether its place in the reply queue is still reserved (R147, R149, R172), and the note of
the cause of a zeroise or link break taken while it is served (R76). -/
structure Serving where
  lane : Nat
  tag : Nat
  kind : Nat
  placeHeld : Bool
  cause : Option Note
deriving DecidableEq, Repr

/-! ### Office link (chapter 10) -/

/-- The parity setting (R165). -/
inductive Parity | none | even | odd
deriving DecidableEq, Repr

/-- The link settings (R165). -/
structure LinkSettings where
  divisor : Nat
  parity : Parity
  stopBits : Nat
deriving DecidableEq, Repr

/-- The status codes (R175). -/
inductive Status
  | ok | malformed | laneFull | laneClosed | notPermitted | locked | notFound | quarantined | suspended | meterBusy | duplicate
  | directoryFull | debtOpen | noZone | zoneEmbargo | noPlan | keyUnavailable | slotInUse | cipherFault | tenderLow | ceilingReached
  | floatShort | rateLimit | quoteOpen | noQuote | late | voided | countersignRequired | storeFault | noIssue | badAuthenticator
  | outOfSequence | outOfRange | clockBackward | clockEnd | configLocked | notHeld
deriving DecidableEq, Repr

/-- A reply in the reply queue (R173); `settings` are those a SET LINK's reply puts into effect once sent (R174). -/
structure Reply where
  lane : Nat
  tag : Nat
  kind : Nat
  status : Status
  payload : List Byte
  settings : Option LinkSettings
deriving DecidableEq, Repr

/-- A received character in the holding byte, with its marks (R166). -/
structure Held where
  data : Byte
  error : Bool
  overrun : Bool
deriving DecidableEq, Repr

/-- The frame assembler (R167, R170): in BODY the length, the bytes appended and the bad mark; in CHECK the body, the CRC's high byte
once taken, and the bad mark; waiting, the answer held. -/
inductive Assembler
  | hunt
  | length
  | body (n : Nat) (taken : List Byte) (bad : Bool)
  | check (taken : List Byte) (high : Option Byte) (bad : Bool)
  | waiting (answer : Reply)
deriving DecidableEq, Repr

/-- A character as the transmitter sends it: its data, its parity bit if the settings ask for one, and its stop bits (R165). -/
structure SentChar where
  data : Byte
  parity : Option Bool
  stopBits : Nat
deriving DecidableEq, Repr

/-- The transmitter (R173): shift register, holding byte, and how many bytes of the first reply have left the queue's front. -/
structure Tx where
  shift : Option SentChar
  hold : Option Byte
  taken : Nat
deriving DecidableEq, Repr

/-- The office link (R165 to R174). `shift` is the receive shift register (R166): empty, or a character whose start bit has fallen, by the
settings it is received at, those of its start bit (R174); its bits come with its end (notes/assumptions/23). -/
structure Olk where
  settings : LinkSettings
  shift : Option LinkSettings
  hold : Option Held
  asm : Assembler
  replies : List Reply
  tx : Tx
  breakHeld : Bool
deriving DecidableEq, Repr

/-! ### The part -/

/-- Start-up work a failed retained write holds up; `last`: step 6 waits for a zeroise's write (R164, notes/assumptions/13). -/
inductive StartUp | done | zeroise | directory | roll | last
deriving DecidableEq, Repr

/-- An event that falls inside a request being served: the tamper input's assertion, a link break, or another block's fault (R84, R157,
R162, R172, notes/assumptions/12). -/
inductive MidEvent | tamper | linkBreak | fault (k : FaultKind)
deriving DecidableEq, Repr

/-- What the outside does that no command names: whether the next retained writes fail (head first; none listed, the write is made),
whether the next self-tests are upset, the events due inside requests, each after so many more of the points at which one may fall (the
first point is number 0), and whether a character stands in the receive shift register at the next changes of the link settings.
DESIGN CHOICE, notes/assumptions/4, 5, 12, 23. Nothing here damages what is stored: the spec names no event that does, and a record or key
that disagrees with its check (R6, R36) stands in a state from the start or not at all. DESIGN CHOICE, notes/assumptions/35. -/
structure Env where
  storeFails : List Bool
  testFails : List Bool
  mid : List (Nat × MidEvent)
  starts : List Bool
deriving DecidableEq, Repr

/-- The NT-40. -/
structure State where
  pending : List Instr
  env : Env
  freeReads : Nat
  supply : Bool
  startUp : StartUp
  tamper : Bool
  olk : Olk
  lqa : Lqa
  serving : Option Serving
  ast : Ast
  dir : Dir
  qtb : Qtb
  zks : Zks
  tcu : Tcu
  ttb : Ttb
  flt : Flt
  clk : Clk
  fmn : Fmn
deriving DecidableEq, Repr

/-! ### Updates of one field; Laws/State.lean has their lemmas -/

/-- The state with `pending` replaced. -/
def State.withPending (s : State) (v : List Instr) : State := { s with pending := v }
/-- The state with `env` replaced. -/
def State.withEnv (s : State) (v : Env) : State := { s with env := v }
/-- The state with `freeReads` replaced. -/
def State.withFreeReads (s : State) (v : Nat) : State := { s with freeReads := v }
/-- The state with `supply` replaced. -/
def State.withSupply (s : State) (v : Bool) : State := { s with supply := v }
/-- The state with `startUp` replaced. -/
def State.withStartUp (s : State) (v : StartUp) : State := { s with startUp := v }
/-- The state with `tamper` replaced. -/
def State.withTamper (s : State) (v : Bool) : State := { s with tamper := v }
/-- The state with `olk` replaced. -/
def State.withOlk (s : State) (v : Olk) : State := { s with olk := v }
/-- The state with `lqa` replaced. -/
def State.withLqa (s : State) (v : Lqa) : State := { s with lqa := v }
/-- The state with `serving` replaced. -/
def State.withServing (s : State) (v : Option Serving) : State := { s with serving := v }
/-- The state with `ast` replaced. -/
def State.withAst (s : State) (v : Ast) : State := { s with ast := v }
/-- The state with `dir` replaced. -/
def State.withDir (s : State) (v : Dir) : State := { s with dir := v }
/-- The state with `qtb` replaced. -/
def State.withQtb (s : State) (v : Qtb) : State := { s with qtb := v }
/-- The state with `zks` replaced. -/
def State.withZks (s : State) (v : Zks) : State := { s with zks := v }
/-- The state with `tcu` replaced. -/
def State.withTcu (s : State) (v : Tcu) : State := { s with tcu := v }
/-- The state with `ttb` replaced. -/
def State.withTtb (s : State) (v : Ttb) : State := { s with ttb := v }
/-- The state with `flt` replaced. -/
def State.withFlt (s : State) (v : Flt) : State := { s with flt := v }
/-- The state with `clk` replaced. -/
def State.withClk (s : State) (v : Clk) : State := { s with clk := v }
/-- The state with `fmn` replaced. -/
def State.withFmn (s : State) (v : Fmn) : State := { s with fmn := v }

/-- Why the model stops. Neither arises in a state a run from reset reaches. -/
inductive Fault
  /-- A slot is taken from an empty free pool. Raised by QUOTE, ENROL, AMEND, SUSPEND, RESUME and RESTORE. R8: 'A take always finds a
  free slot'. Safe: the model stops where the part is said never to be. -/
  | freePoolEmpty
  /-- An ISSUE or WITHDRAW finds its lane's quote already ISSUING. R85: 'It does not meet a quote in ISSUING'. Safe: as above. -/
  | quoteIssuing
deriving DecidableEq, Repr

/-- Why a command has no meaning. No arm of `exec` raises it. -/
inductive Refusal
  /-- The command is not modelled yet. Raised by no arm. Safe. -/
  | notModelled (mnemonic : String)
deriving DecidableEq, Repr

/-- The link settings after power-on reset: divisor 47, even parity, one stop bit (R165). -/
def defaultSettings : LinkSettings := ⟨47, .even, 1⟩

/-- The office link after power-on reset (R165, R166, R167, R173). R171 gives the memory of a break taken no power-on value: cleared, so a
part reset while the wire is still low accepts characters and takes a further break. DESIGN CHOICE, notes/assumptions/32. -/
def Olk.powerOn : Olk := ⟨defaultSettings, none, none, .hunt, [], ⟨none, none, 0⟩, false⟩

/-- A zone entry in the factory state (R26). -/
def Zone.factory : Zone := ⟨.unused, 0, 0, 0, none, none⟩

/-- Totals of a fresh settlement period (R121, R124). -/
def Totals.zero : Totals := ⟨0, 0, 0, 0, 0, 0⟩

/-- The part in the factory state of its retained store, right after a power-on reset with the tamper input released and a sound
cipher (R164 and the factory column of each chapter). Values the spec does not give: notes/assumptions/4, 5, 6, 9, 11, 12, 20, 23. -/
def State.reset : State where
  pending := []
  env := ⟨[], [], [], []⟩
  freeReads := 1
  supply := true
  startUp := .done
  tamper := false
  olk := Olk.powerOn
  lqa := ⟨Vector.replicate 9 [], Vector.replicate 8 3, Vector.replicate 8 .none, Vector.replicate 6 8⟩
  serving := none
  ast := ⟨[], List.range Config.slotCount⟩
  dir := ⟨[], none⟩
  qtb := ⟨Vector.replicate 8 none, .counting ((Config.lfsr 0).toNat % 8), 0, 0⟩
  zks := ⟨Vector.replicate 16 Zone.factory, Vector.replicate 16 .empty, []⟩
  tcu := ⟨true, 0⟩
  ttb := ⟨Vector.replicate 16 none, Vector.replicate 16 none, none, 0⟩
  flt := ⟨0, 0, 50000000, 5000, 180, none, false, 0, 0, Totals.zero, none⟩
  clk := ⟨0, 0, 0, none, false⟩
  fmn := ⟨0, [], false, none, false, false, 0⟩

end Sys2Proof.Machine
end

