-- ==== Sys2Proof/Machine/Crc.lean ====
section
/-! DEFINITION. The CRC-16 of the manual's conventions, and a record's check code over it (R5). -/

namespace Sys2Proof.Machine

/-- One bit into the CRC: polynomial 0x1021, most significant bit first (chapter 00, conventions). -/
def crcBit (c : Crc) (b : Bool) : Crc :=
  if c.msb != b then (c <<< 1) ^^^ 0x1021 else c <<< 1

/-- One byte into the CRC, its most significant bit first. -/
def crcByte (c : Crc) (x : Byte) : Crc :=
  [7, 6, 5, 4, 3, 2, 1, 0].foldl (fun c i => crcBit c (x.getLsbD i)) c

/-- The CRC-16 of a list of bytes: initial value 0xFFFF, no final exclusive-or (chapter 00, conventions). -/
def crc16 (bs : List Byte) : Crc := bs.foldl crcByte 0xFFFF

/-- A yes/no as a number (R175). -/
def bit (b : Bool) : Nat := if b then 1 else 0

/-- A record's state as a number (R175). -/
def RecordState.code : RecordState → Nat
  | .active => 0
  | .suspended => 1

/-- The stored fields of a record in the order of R1, each at its width on the line, with the presence marks R5 asks for. The widths,
the marks' places, and that an absent last TID, last issue or key change stands as bytes of 0 at its full width behind its mark, are not
the spec's: DESIGN CHOICE, notes/assumptions/10. -/
def Record.fields (r : Record) : List Field :=
  let issue := r.issue.getD ⟨0, 0, 0, 0, none⟩
  let change := issue.change.getD ⟨0, 0⟩
  [(5, r.meter), (1, r.state.code), (1, r.zone), (1, r.plan), (1, r.revision), (1, bit r.eligible), (2, r.stamp), (2, r.units),
   (1, bit r.fixed), (1, bit r.taken), (4, r.arrears), (1, r.rate), (3, r.carry),
   (1, bit r.lastTid.isSome), (3, r.lastTid.getD 0),
   (1, bit r.issue.isSome), (3, issue.firstTid), (1, issue.count), (2, issue.credit), (2, issue.free),
   (1, bit issue.change.isSome), (1, change.fromRev), (1, change.toRev)]

/-- The check code of a record's fields (R5). -/
def Record.checkCode (r : Record) : Crc := crc16 (fieldBytes r.fields)

/-- The record with its check code, as a version is written (R3, R5). -/
def Record.sealed (r : Record) : Record := { r with check := r.checkCode }

/-- Whether the stored check code agrees with the fields (R6). -/
def Record.intact (r : Record) : Bool := r.check == r.checkCode

end Sys2Proof.Machine
end

