-- ==== Sys2Proof/Machine/Operands.lean ====
section
/-! DEFINITION. The operand forms of requests and the field forms of replies (R175): enumerated values, yes/no fields, signed amounts,
absent values, token digits, and the reply frame. -/

namespace Sys2Proof.Machine

/-- A yes/no field holds 0 or 1 (R175). -/
def yesNo (v : Nat) : Bool := decide (v ≤ 1)

/-- A four-byte field read as two's complement (R175). -/
def signed32 (v : Nat) : Int := if v < 2 ^ 31 then (v : Int) else (v : Int) - 2 ^ 32

/-- A record's state from its code (R175). -/
def RecordState.ofCode : Nat → Option RecordState
  | 0 => some .active
  | 1 => some .suspended
  | _ => none

/-- A zone's action as a number (R175). -/
def ZoneAction.code : ZoneAction → Nat
  | .unused => 0
  | .accept => 1
  | .embargo => 2

/-- A zone's action from its code (R175). -/
def ZoneAction.ofCode : Nat → Option ZoneAction
  | 0 => some .unused
  | 1 => some .accept
  | 2 => some .embargo
  | _ => none

/-- A parity as a number (R174). -/
def Parity.code : Parity → Nat
  | .none => 0
  | .even => 1
  | .odd => 2

/-- A parity from its code (R174). -/
def Parity.ofCode : Nat → Option Parity
  | 0 => some .none
  | 1 => some .even
  | 2 => some .odd
  | _ => Option.none

/-- A fault kind as a number (R175). -/
def FaultKind.code : FaultKind → Nat
  | .recordCheck => 1
  | .storeWrite => 2
  | .keyCheck => 3
  | .cipherTest => 4

/-- The case of the latest fault as a number (R175). -/
def FaultCase.code : FaultCase → Nat
  | .pushed => 0
  | .reportedOnly => 1
  | .lockedPart => 2

/-- The status code values (R175). -/
def Status.code : Status → Nat
  | .ok => 0x00 | .malformed => 0x01 | .laneFull => 0x02 | .laneClosed => 0x03 | .notPermitted => 0x04 | .locked => 0x05
  | .notFound => 0x06 | .quarantined => 0x07 | .suspended => 0x08 | .meterBusy => 0x09 | .duplicate => 0x0A
  | .directoryFull => 0x0B | .debtOpen => 0x0C | .noZone => 0x0D | .zoneEmbargo => 0x0E | .noPlan => 0x0F
  | .keyUnavailable => 0x10 | .slotInUse => 0x11 | .cipherFault => 0x12 | .tenderLow => 0x13 | .ceilingReached => 0x14
  | .floatShort => 0x15 | .rateLimit => 0x16 | .quoteOpen => 0x17 | .noQuote => 0x18 | .late => 0x19 | .voided => 0x1A
  | .countersignRequired => 0x1B | .storeFault => 0x1C | .noIssue => 0x1D | .badAuthenticator => 0x1E | .outOfSequence => 0x1F
  | .outOfRange => 0x20 | .clockBackward => 0x21 | .clockEnd => 0x22 | .configLocked => 0x23 | .notHeld => 0x24

/-- What a request is answered: the status, the payload, and the settings a SET LINK's reply is to put into effect (R173, R174). -/
structure Answer where
  status : Status
  payload : List Byte
  settings : Option LinkSettings
deriving DecidableEq, Repr

/-- An answer without a payload (R175). -/
def Answer.bare (st : Status) : Answer := ⟨st, [], none⟩

/-- An OK answer (R175). -/
def Answer.ok (payload : List Byte) : Answer := ⟨.ok, payload, none⟩

/-- Why a key is unavailable (R175). -/
inductive KeyReason | notLoaded | checkFailed | stranded
deriving DecidableEq, Repr

/-- A key's reason as a number (R175). -/
def KeyReason.code : KeyReason → Nat
  | .notLoaded => 1
  | .checkFailed => 2
  | .stranded => 3

/-- KEY_UNAVAILABLE with its reason and slot; 0xFF stands for the slot of a stranded meter (R175). -/
def Answer.keyUnavailable (why : KeyReason) (slot : Nat) : Answer :=
  ⟨.keyUnavailable, fieldBytes [(1, why.code), (1, if why = .stranded then 0xFF else slot)], none⟩

/-- A stranded meter's refusal (R40). -/
def Answer.stranded : Answer := Answer.keyUnavailable .stranded 0xFF

/-- A one-byte revision, slot or lane, 0xFF when absent (R175). -/
def orFF (o : Option Nat) : Nat := o.getD 0xFF

/-- `n` bytes of an absent value that stands `off` bytes into a reply's payload: left open by R175, so free values. -/
def openBytes (s : State) (off n : Nat) : List Byte := (List.range n).map fun k => Config.filler s.freeReads (off + k)

/-- A value of `n` bytes under a mark of absence elsewhere in the payload. -/
def maybeBytes (s : State) (off n : Nat) : Option Nat → List Byte
  | some v => beBytes n v
  | none => openBytes s off n

/-- An optional value of `n` bytes behind its presence byte (R175). -/
def presenceBytes (s : State) (off n : Nat) : Option Nat → List Byte
  | some v => 1 :: beBytes n v
  | none => 0 :: openBytes s (off + 1) n

/-- A token as 20 decimal digits, two to a byte, most significant first (R105, R175). -/
def tokenDigits (b : Block) : List Byte :=
  [9, 8, 7, 6, 5, 4, 3, 2, 1, 0].map fun i =>
    let pair := b.toNat / 100 ^ i % 100
    BitVec.ofNat 8 (pair / 10 * 16 + pair % 10)

/-- The bits set in a byte. -/
def onesOf (b : Byte) : Nat := ((List.range 8).filter fun i => b.getLsbD i).length

/-- The parity bit a character is sent with: none, or the one that makes the count of ones even or odd as set (R165). -/
def Parity.bitFor (p : Parity) (data : Byte) : Option Bool :=
  match p with
  | .none => Option.none
  | .even => some (onesOf data % 2 == 1)
  | .odd => some (onesOf data % 2 == 0)

/-- A byte as a character of the link at some settings (R165). -/
def LinkSettings.char (l : LinkSettings) (data : Byte) : SentChar := ⟨data, l.parity.bitFor data, l.stopBits⟩

/-- A character's bits in the order they are sent: the start bit, the data least significant first, the parity bit if any, the stop bits
(R165). -/
def SentChar.bits (c : SentChar) : List Bool :=
  false :: (List.range 8).map c.data.getLsbD ++ c.parity.toList ++ List.replicate c.stopBits true

/-- The lane and tag byte (R175). -/
def laneTagByte (lane tag : Nat) : Byte := BitVec.ofNat 8 (lane * 16 + tag)

/-- The bytes of a reply frame (R173, R175). -/
def Reply.frame (r : Reply) : List Byte :=
  let body := laneTagByte r.lane r.tag :: BitVec.ofNat 8 r.kind :: BitVec.ofNat 8 r.status.code :: r.payload
  (0x5A : Byte) :: BitVec.ofNat 8 body.length :: body ++ beBytes 2 (crc16 body).toNat

/-- The bytes of a request frame (R167, R175). -/
def requestFrame (lane : Nat) (r : Request) : List Byte :=
  let body := laneTagByte lane r.tag :: BitVec.ofNat 8 r.kind :: r.payload
  (0xA5 : Byte) :: BitVec.ofNat 8 body.length :: body ++ beBytes 2 (crc16 body).toNat

end Sys2Proof.Machine
end

