-- ==== Sys2Proof/Machine/Ops.lean ====
section
/-! DEFINITION. The operations every command shares: tables, faults and retained writes, record slots, the directory's view, quotes and
their voids, the reply queue, the arbiter, and the serving of one request. -/

namespace Sys2Proof.Machine

/-! ### Tables -/

/-- The element at an index of a table, the default past its end. -/
def pick {α : Type} [Inhabited α] {n : Nat} (v : Vector α n) (i : Nat) : α := (v[i]?).getD default

/-- The table with one element replaced; nothing past its end. -/
def put {α : Type} {n : Nat} (v : Vector α n) (i : Nat) (x : α) : Vector α n := v.setIfInBounds i x

/-! ### Faults and retained writes (R154, R155) -/

/-- The level of a fault kind (R154). -/
def FaultKind.level : FaultKind → Nat
  | .recordCheck => 2
  | .storeWrite => 5
  | .keyCheck => 6
  | .cipherTest => 6

/-- Which case of R155 a fault meets. -/
def faultCase (k : FaultKind) (m : Fmn) : FaultCase :=
  if m.locked then .reportedOnly
  else if k.level = 6 ∧ m.stack.any (fun e => e.level == 6) then .lockedPart
  else if m.hold < k.level then (if 2 ≤ m.stack.length then .lockedPart else .pushed)
  else .reportedOnly

/-- What the fault monitor makes of a fault (R155). -/
def Fmn.arrive (k : FaultKind) (minute : Nat) (m : Fmn) : Fmn :=
  let c := faultCase k m
  let m' : Fmn :=
    match c with
    | .reportedOnly => m
    | .lockedPart => { m with locked := true }
    | .pushed => { m with stack := ⟨m.hold, k, k.level⟩ :: m.stack, hold := k.level }
  { m' with latest := some ⟨k, k.level, minute, c⟩ }

/-- A fault arrives at the fault monitor (R154, R155). -/
def raise (k : FaultKind) (s : State) : State := s.withFmn (s.fmn.arrive k s.clk.minute)

/-- The next retained write is tried: whether it fails, and the state with that outcome drawn (notes/assumptions/4). -/
def drawWrite (s : State) : Bool × State :=
  match s.env.storeFails with
  | [] => (false, s)
  | b :: rest => (b, s.withEnv { s.env with storeFails := rest })

/-- A retained write: made, or failed with a STORE_WRITE fault (R3, R154). -/
def retained {α : Type} (s : State) (made failed : State → α) : α :=
  match drawWrite s with
  | (false, s') => made s'
  | (true, s') => failed (raise .storeWrite s')

/-- A fault together with the STORE_WRITE of a write that failed beside it, in whichever order they come (R6, R36, R155). -/
def raiseBeside (k : FaultKind) (s : State) : State :=
  let s' := s.withFreeReads (s.freeReads + 1)
  if Config.storeWriteFirst s.freeReads then raise k (raise .storeWrite s') else raise .storeWrite (raise k s')

/-! ### Record slots and the free pool (R3, R8) -/

/-- The record in a slot. -/
def Store.read (m : Store) (slot : Nat) : Record :=
  match m with
  | [] => blankRecord
  | (k, r) :: rest => if k = slot then r else Store.read rest slot

/-- The slots with one written. Keeps `Store.wf`. -/
def Store.write (m : Store) (slot : Nat) (r : Record) : Store :=
  match m with
  | [] => if r = blankRecord then [] else [(slot, r)]
  | (k, x) :: rest =>
    if slot < k then (if r = blankRecord then (k, x) :: rest else (slot, r) :: (k, x) :: rest)
    else if slot = k then (if r = blankRecord then rest else (slot, r) :: rest)
    else (k, x) :: Store.write rest slot r

/-- The canonical form: slots strictly rising, none holding what an unwritten slot reads as. -/
def Store.wf (m : Store) : Bool :=
  decide ((m.map Prod.fst).Pairwise (· < ·)) && m.all fun c => decide (c.2 ≠ blankRecord)

/-- The record in a slot of the account store. -/
def State.record (s : State) (slot : Nat) : Record := Store.read s.ast.slots slot

/-- A slot written with a record as it stands. -/
def writeSlot (slot : Nat) (r : Record) (s : State) : State :=
  s.withAst { s.ast with slots := Store.write s.ast.slots slot r }

/-- A slot taken from the free pool (R8). None when the pool is empty. -/
def takeSlot (s : State) : Option (Nat × State) :=
  match s.ast.free with
  | [] => none
  | x :: rest => some (x, s.withAst { s.ast with free := rest })

/-- A slot joins the free pool (R8). -/
def freeSlot (slot : Nat) (s : State) : State := s.withAst { s.ast with free := slot :: s.ast.free }

/-! ### The directory (R10 to R14) -/

/-- The gap the steps have reached (R13). -/
def Change.cursor : Change → Nat
  | .enrolling _ _ _ _ c => c
  | .retiring _ _ c => c

/-- The list without the gap at the cursor (R13). -/
def Dir.view (d : Dir) : List Entry :=
  match d.change with
  | none => d.entries
  | some c => d.entries.eraseIdx c.cursor

/-- A lookup as the change will leave the list (R10, R13). -/
def Dir.lookup (d : Dir) (meter : Nat) : Option Entry :=
  if meter = 0 ∨ Config.maxMeter < meter then none
  else match d.change with
    | some (.enrolling m slot q _ _) => if m = meter then some ⟨m, slot, q⟩ else d.view.find? fun e => e.meter == meter
    | _ => d.view.find? fun e => e.meter == meter

/-- The directory count: the list, plus one for a pending enrolment, a pending retirement counted until it completes (R10). -/
def Dir.count (d : Dir) : Nat := d.view.length + (if d.change.isSome then 1 else 0)

/-- The list in LIST's view: a pending enrol included, a pending retire excluded (R25). -/
def Dir.listing (d : Dir) : List Entry :=
  match d.change with
  | some (.enrolling m slot q p _) => d.view.take p ++ ⟨m, slot, q⟩ :: d.view.drop p
  | _ => d.view

/-- One meter's entry changed wherever it stands, the pending enrolment's included (R14). -/
def Dir.update (d : Dir) (meter : Nat) (f : Entry → Entry) : Dir :=
  { entries := d.entries.map fun e => if e.meter = meter then f e else e
    change := match d.change with
      | some (.enrolling m slot q p c) =>
        if m = meter then some (.enrolling m (f ⟨m, slot, q⟩).slot (f ⟨m, slot, q⟩).quarantined p c) else d.change
      | other => other }

/-- The slot swap of a meter's entry (R14). -/
def Dir.swap (d : Dir) (meter slot : Nat) : Dir := d.update meter fun e => { e with slot := slot }

/-- A meter's quarantined flag set or cleared (R6, R20). -/
def Dir.mark (d : Dir) (meter : Nat) (q : Bool) : Dir := d.update meter fun e => { e with quarantined := q }

/-- A cell of the list written: within it, or just past its end (R11). -/
def setCell (es : List Entry) (i : Nat) (e : Entry) : List Entry := if i < es.length then es.set i e else es ++ [e]

/-- The record of a meter whose stored check code does not agree: marked, and a RECORD_CHECK fault (R6). -/
def quarantine (meter : Nat) (s : State) : State :=
  match drawWrite s with
  | (false, s') => raise .recordCheck (s'.withDir (s'.dir.mark meter true))
  | (true, s') => raiseBeside .recordCheck s'

/-- What a request finds that reads a meter's record in order to use its fields (R6, R7). -/
inductive Found
  | missing
  | bad (e : Entry) (s : State)
  | good (e : Entry) (r : Record)

/-- Find a meter and read its record, verifying the check code (R6, R10). -/
def findRecord (meter : Nat) (s : State) : Found :=
  match s.dir.lookup meter with
  | none => .missing
  | some e =>
    if e.quarantined then .bad e s
    else if (s.record e.slot).intact then .good e (s.record e.slot)
    else .bad e (quarantine meter s)

/-- A record read in the present month (R4). -/
def Record.rolled (r : Record) (month : Nat) : Record :=
  if r.stamp < month then { r with stamp := month, units := 0, fixed := false, taken := false } else r

/-! ### Requests' outcomes -/

/-- What serving a request comes to: an answer and the state, or a stop. -/
abbrev Served := Host.Outcome (Answer × State) Fault Refusal

/-- The request is answered. -/
def answered (a : Answer) (s : State) : Served := .next (a, s)

/-- The request is answered a status without a payload. -/
def refuse (st : Status) (s : State) : Served := answered (Answer.bare st) s

/-- A new version of a record written into a slot taken from the free pool (R3): then `next` with the slot, or STORE_FAULT with the slot
back in the pool. -/
def writeVersion (r : Record) (s : State) (next : Nat → State → Served) : Served :=
  match takeSlot s with
  | none => .fault .freePoolEmpty
  | some (slot, t) =>
    retained t (fun u => next slot (writeSlot slot r.sealed u)) fun u => refuse .storeFault (freeSlot slot u)

/-- A new version of a meter's record written and swapped in, the old slot freed; `flag` the quarantined flag's new value if it is to
change (R3, R20). -/
def replaceRecord (e : Entry) (r : Record) (flag : Option Bool) (s : State) (next : State → Served) : Served :=
  writeVersion r s fun slot t =>
    retained t
      (fun u =>
        let d := u.dir.swap e.meter slot
        next (freeSlot e.slot (u.withDir (match flag with | some q => d.mark e.meter q | none => d))))
      fun u => refuse .storeFault (freeSlot slot u)

/-! ### Counter lanes: quotes, notes, levels (R69, R143, R151) -/

/-- The quote of a counter lane. -/
def State.quoteAt (s : State) (lane : Nat) : Option Quote := if lane = 0 then none else pick s.qtb.quotes (lane - 1)

/-- A counter lane's quote entry written. -/
def setQuote (lane : Nat) (q : Option Quote) (s : State) : State :=
  if lane = 0 then s else s.withQtb { s.qtb with quotes := put s.qtb.quotes (lane - 1) q }

/-- The outcome note of a counter lane; the supervisor lane holds none (R151). -/
def State.noteAt (s : State) (lane : Nat) : Note := if lane = 0 then .none else pick s.lqa.notes (lane - 1)

/-- A counter lane's outcome note written. -/
def setNote (lane : Nat) (n : Note) (s : State) : State :=
  if lane = 0 then s else s.withLqa { s.lqa with notes := put s.lqa.notes (lane - 1) n }

/-- The level of a lane: the supervisor's is 7 (R143). -/
def State.levelAt (s : State) (lane : Nat) : Nat := if lane = 0 then 7 else pick s.lqa.levels (lane - 1)

/-- The requests waiting on a lane, head first (R142). -/
def State.queueAt (s : State) (lane : Nat) : List Request := pick s.lqa.queues lane

/-- A lane's queue written. -/
def setQueue (lane : Nat) (q : List Request) (s : State) : State := s.withLqa { s.lqa with queues := put s.lqa.queues lane q }

/-- The counter lanes. -/
def counterLanes : List Nat := [1, 2, 3, 4, 5, 6, 7, 8]

/-- The counter lane that holds a quote on a meter, if one does (R69). -/
def State.quoteLane (s : State) (meter : Nat) : Option Nat :=
  counterLanes.find? fun k => (s.quoteAt k).any fun q => q.meter == meter

/-! ### Voiding quotes (R76) -/

/-- The review counter restarts in COUNTING at the low 3 bits of the LFSR (R94). -/
def restartReview (s : State) : State :=
  (s.withQtb { s.qtb with review := .counting ((Config.lfsr s.freeReads).toNat % 8) }).withFreeReads (s.freeReads + 1)

/-- A quote that carried the review tag has left the table (R94). -/
def releaseReview (q : Quote) (s : State) : State := if q.review then restartReview s else s

/-- A lane's quote voided, its note left alone: the entry empties, the shadow slot joins the free pool, the reservation is released, the
review counter restarts if the quote carried its tag (R76, R118). -/
def voidQuote (lane : Nat) (s : State) : State :=
  match s.quoteAt lane with
  | none => s
  | some q =>
    let t := freeSlot q.shadow (setQuote lane none s)
    releaseReview q (t.withFlt { t.flt with reserved := t.flt.reserved - q.accepted })

/-- A lane's quote voided if it is OPEN or HELD, with the note its cause gives (R76, R77). -/
def voidWaiting (note : Note) (lane : Nat) (s : State) : State :=
  match s.quoteAt lane with
  | none => s
  | some q => if q.state = .issuing then s else setNote lane note (voidQuote lane s)

/-- Every OPEN or HELD quote voided with one cause (R86, R87). -/
def voidAll (note : Note) (s : State) : State := counterLanes.foldl (fun t k => voidWaiting note k t) s

/-! ### The reply queue and the transmitter (R149, R173) -/

/-- Whether the reply queue has a free place: replies held and places reserved number fewer than 16 (R149). -/
def State.placeFree (s : State) : Bool :=
  decide (s.olk.replies.length + (if s.serving.any (·.placeHeld) then 1 else 0) < Config.replyPlaces)

/-- The transmitter's holding byte takes the next byte of the first reply when it is empty. -/
def Tx.load (frame : List Byte) (t : Tx) : Tx :=
  match t.hold, frame[t.taken]? with
  | none, some b => { t with hold := some b, taken := t.taken + 1 }
  | _, _ => t

/-- The shift register, when it is empty, takes the holding byte as a character at the present settings (R165, R174). -/
def Tx.push (l : LinkSettings) (t : Tx) : Tx := if t.shift.isNone then { t with shift := t.hold.map l.char, hold := none } else t

/-- The transmitter filled from the first reply, characters back to back (R173). -/
def fillTx (o : Olk) : Olk :=
  match o.replies with
  | [] => { o with tx := o.tx.push o.settings }
  | r :: _ => { o with tx := ((o.tx.load r.frame).push o.settings).load r.frame }

/-- A reply enters the tail of the reply queue (R173). -/
def pushReply (r : Reply) (s : State) : State := s.withOlk (fillTx { s.olk with replies := s.olk.replies ++ [r] })

/-- The engine places the reply of the request it serves in its reserved place, or discards it if a link break took the place; either
way it is free again (R147, R149). -/
def finish (a : Answer) (s : State) : State :=
  let t := (s.withFreeReads (s.freeReads + 1)).withServing none
  match s.serving with
  | some v => if v.placeHeld then pushReply ⟨v.lane, v.tag, v.kind, a.status, a.payload, a.settings⟩ t else t
  | none => t

/-! ### The arbiter (R145 to R148) -/

/-- The supervisor lane waits: an ENROL, a RETIRE or a RESTORE stands at its head while a directory change is pending (R146). -/
def State.supervisorWaits (s : State) : Bool :=
  s.dir.change.isSome &&
    match s.queueAt 0 with
    | r :: _ => r.kind == Kind.enrol.code || r.kind == Kind.retire.code || r.kind == Kind.restore.code
    | [] => false

/-- Whether a lane is eligible and has a request waiting (R145, R146). -/
def State.ready (s : State) (lane : Nat) : Bool :=
  !(s.queueAt lane).isEmpty && decide (s.fmn.hold < s.levelAt lane) && !(lane == 0 && s.supervisorWaits)

/-- The counter lanes in cyclic order from the one after a turn pointer, around to the pointer's own (R148). -/
def turnOrder (pointer : Nat) : List Nat := (List.range 8).map fun i => (pointer + i) % 8 + 1

/-- The turn pointer of a level 1 to 6 (R148). -/
def State.pointerAt (s : State) (level : Nat) : Nat := pick s.lqa.pointers (level - 1)

/-- The lane a counter level grants: the first met, from the level's pointer, that stands at the level and is ready (R148). -/
def State.turn (s : State) (level : Nat) : Option Nat :=
  (turnOrder (s.pointerAt level)).find? fun k => s.levelAt k == level && s.ready k

/-- The part serves requests: supply is on and start-up is done (R84, R147, R164). -/
def State.running (s : State) : Bool := s.supply && decide (s.startUp = .done)

/-- The lane whose head request the arbiter grants now, if it grants one (R147). -/
def State.nextLane (s : State) : Option Nat :=
  if s.running && s.serving.isNone && s.placeFree then
    if s.ready 0 then some 0 else [6, 5, 4, 3, 2, 1].findSome? s.turn
  else none

/-- The state after the grant of a lane's head request: it leaves its queue, the level's pointer names the lane, the engine is busy and a
reply place is reserved (R147, R148). -/
def granted (lane : Nat) (r : Request) (rest : List Request) (s : State) : State :=
  let t := setQueue lane rest s
  let u := if lane = 0 then t else t.withLqa { t.lqa with pointers := put t.lqa.pointers (s.levelAt lane - 1) lane }
  u.withServing (some ⟨lane, r.tag, r.kind, true, none⟩)

/-- The grant of a request: it stands at the head of its lane's queue, or enters that queue now if the queue is empty, and the arbiter
grants it. None when the arbiter does not (notes/assumptions/1). -/
def grantTo (lane : Nat) (r : Request) (s : State) : Option State :=
  let t := if (s.queueAt lane).isEmpty then setQueue lane [r] s else s
  match t.queueAt lane with
  | h :: rest => if h = r ∧ t.nextLane = some lane then some (granted lane r rest t) else none
  | [] => none

/-- The state after the grant of a request command. -/
def grantOf (i : Instr) (s : State) : Option State := i.request.bind fun x => grantTo x.1 x.2 s

/-- Whether a kind byte is permitted on a lane (R150). -/
def permitted (lane kind : Nat) : Bool :=
  match Kind.ofCode kind with
  | some k => if lane = 0 then k.onSupervisor else k.onCounter
  | none => false

/-- The status of a request answered before its own checks: LOCKED, then NOT_PERMITTED (R150). -/
def barred (lane kind : Nat) (s : State) : Option Status :=
  if s.fmn.locked && !(lane == 0 && (kind == Kind.status.code || kind == Kind.zeroise.code)) then some .locked
  else if permitted lane kind then none
  else some .notPermitted

/-- The state in which the engine makes a request's own checks: granted, and passed by the checks of R150. -/
def taken (i : Instr) (s : State) : Option State :=
  i.request.bind fun x => (grantTo x.1 x.2 s).bind fun g => if (barred x.1 x.2.kind g).isNone then some g else none

/-- A request served from its grant to its reply (R147, R150). A request the arbiter does not grant now changes nothing. -/
def serve (i : Instr) (s : State) (body : State → Served) : Host.Outcome State Fault Refusal :=
  match i.request with
  | none => .next s
  | some (lane, r) =>
    match grantTo lane r s with
    | none => .next s
    | some g =>
      match barred lane r.kind g with
      | some st => .next (finish (Answer.bare st) g)
      | none =>
        match body g with
        | .next (a, t) => .next (finish a t)
        | .fault f => .fault f
        | .refused f => .refused f

/-- An event of a part that has supply; without supply nothing is served (R84). -/
def powered (s : State) (f : State → State) : Host.Outcome State Fault Refusal := .next (if s.supply then f s else s)

end Sys2Proof.Machine
end

