-- ==== Sys2Proof/Machine/Credit.lean ====
section
/-! DEFINITION. The credit computation, stages 0 to 9 (R54 to R68). Money is counted exactly; the spec's 40 bits hold every value it forms
(DEDUCED, notes/assumptions/28). -/

namespace Sys2Proof.Machine

/-- What the block walk leaves: the position, the residual of M, and whether it is clamped (R61, R62). -/
structure Walk where
  position : Nat
  residual : Nat
  clamped : Bool
deriving DecidableEq, Repr

/-- One block taken from `u` up to `limit` at price `p`: all the room, or as many tenths as M buys (R62). -/
def takeBlock (limit p u money : Nat) : Nat × Nat × Bool :=
  if (limit - u) * p ≤ money then (limit, money - (limit - u) * p, true) else (u + money / p, money - money / p * p, false)

/-- The block walk over the blocks that have a bound and then the last, from position `u` (R61, R62). -/
def walk (ceiling last : Nat) : List (Nat × Nat) → Nat → Nat → Walk
  | [], u, money =>
    if ceiling ≤ u then ⟨u, money, true⟩
    else
      match takeBlock ceiling last u money with
      | (u', money', whole) => ⟨u', money', whole⟩
  | (bound, p) :: rest, u, money =>
    if ceiling ≤ u then ⟨u, money, true⟩
    else if bound ≤ u then walk ceiling last rest u money
    else
      match takeBlock (min bound ceiling) p u money with
      | (u', money', true) => if u' = ceiling then ⟨u', money', true⟩ else walk ceiling last rest u' money'
      | (u', money', false) => ⟨u', money', false⟩

/-- The figures of a computation that opens a quote (R68). -/
structure Figures where
  accepted : Nat
  fixed : Nat
  recovery : Nat
  energy : Nat
  cost : Nat
  carryOut : Nat
  free : Nat
  paid : Bool
  clamped : Bool
  restricted : Bool
deriving DecidableEq, Repr

/-- The free allocation due to a record under a plan (R58, R65). -/
def freeDue (r : Record) (p : Plan) : Nat := if r.eligible ∧ ¬ r.taken then p.free else 0

/-- The fixed charge due (R56). -/
def fixedDue (r : Record) (p : Plan) : Nat := if r.fixed then 0 else p.fixed

/-- The recovery of a net tender: a share of it, at most the arrears (R59). -/
def recoveryOf (r : Record) (net : Nat) : Nat := min r.arrears (net * r.rate / 100)

/-- Stages 3 to 7 of the paid path for a tender `t` (R59 to R65). -/
def paidFigures (r : Record) (p : Plan) (t : Nat) (restricted : Bool) : Except Status Figures :=
  let fd := fixedDue r p
  let rec' := recoveryOf r (t - fd)
  let money := (t - fd - rec') * 1000 + r.carry
  let w := walk p.ceiling p.lastPrice p.bounded r.units money
  let e := w.position - r.units
  let x := money - w.residual
  if w.clamped then
    if e = 0 then .error .ceilingReached
    else
      let q := if x ≤ r.carry then 0 else (x - r.carry + 999) / 1000
      .ok ⟨fd + rec' + q, fd, rec', e, x, q * 1000 + r.carry - x, freeDue r p, true, true, restricted⟩
  else if e = 0 then .error .tenderLow
  else .ok ⟨t, fd, rec', e, x, w.residual, freeDue r p, true, false, restricted⟩

/-- The free-only path (R58). -/
def freeFigures (r : Record) (p : Plan) (restricted : Bool) : Except Status Figures :=
  if freeDue r p = 0 then .error .tenderLow
  else .ok ⟨0, 0, 0, 0, 0, r.carry, freeDue r p, false, false, restricted⟩

/-- The credit computation from stage 0 on: the record as rolled, its plan, the offered tender, and the restricted cap when the float's
mode is RESTRICTED (R55 to R65). -/
def computeCredit (r : Record) (p : Plan) (offered : Nat) (cap : Option Nat) : Except Status Figures :=
  let t := match cap with | some c => min offered c | none => offered
  if t = 0 then freeFigures r p cap.isSome
  else if t < fixedDue r p + p.minimum then .error .tenderLow
  else paidFigures r p t cap.isSome

/-- The record's new version in a month (R66), from the record as rolled. -/
def Figures.version (f : Figures) (month : Nat) (r : Record) : Record :=
  { r with
    stamp := month
    units := r.units + f.energy
    fixed := f.paid || r.fixed
    taken := decide (0 < f.free) || r.taken
    arrears := r.arrears - f.recovery
    carry := f.carryOut }

/-- The token count of stage 9 (R68). -/
def Figures.tokenCount (f : Figures) (keyChange : Bool) : Nat :=
  (if keyChange then 4 else 0) + (if 0 < f.energy then 1 else 0) + (if 0 < f.free then 1 else 0)

end Sys2Proof.Machine
end

