-- ==== Sys2Proof/Machine/Flags.lean ====
section
/-! DEFINITION. Flag bytes: the flags of a request's byte, and the bytes replies make of flags (R175). A request's bits that the catalogue
does not name are not read (DEDUCED, notes/assumptions/17). -/

namespace Sys2Proof.Machine

/-- Bit `i` of a flags byte, bit 0 the least significant (R175). -/
def flag (v i : Nat) : Bool := v.testBit i

/-- The number whose bits are given, bit 0 first. -/
def bitsNat : List Bool → Nat
  | [] => 0
  | b :: bs => bit b + 2 * bitsNat bs

/-- QUERY's flags: free eligible, free due, last TID present, last issue present, fixed collected, free taken, quarantined (R175). -/
def queryFlags (r : Record) (freeDue : Bool) : Nat :=
  bitsNat [r.eligible, freeDue, r.lastTid.isSome, r.issue.isSome, r.fixed, r.taken, false]

/-- QUOTE's flags: clamped, restricted, held (R175). -/
def quoteFlags (q : Quote) : Nat := bitsNat [q.clamped, q.restricted, q.review || q.threshold]

/-- A quote's tag: review, threshold (R175). -/
def quoteTag (q : Quote) : Nat := bitsNat [q.review, q.threshold]

/-- ZEROISE's voided lanes: bit k - 1 for lane k (R175). -/
def lanesMask (voided : List Bool) : Nat := bitsNat voided

end Sys2Proof.Machine
end

