-- ==== Sys2Proof/Machine/Cipher.lean ====
section
/-! DEFINITION. The token cipher as a function on blocks (R41, R42), and the known-answer test's comparisons (R44). -/

namespace Sys2Proof.Machine

/-- Half a block. -/
abbrev Half := BitVec 32

/-- Subkey `i` of a key: the high half of the key rotated left by 8 i bits (R41). -/
def subkey (k : Block) (i : Nat) : Half := (k.rotateLeft (8 * i)).extractLsb' 32 32

/-- The round function F (R41). -/
def roundF (x k : Half) : Half := (x + k).rotateLeft 5 ^^^ x.rotateRight 11

/-- The high and low halves of a block (R41). -/
def halves (b : Block) : Half × Half := (b.extractLsb' 32 32, b.extractLsb' 0 32)

/-- A block of its halves, high first (R41). -/
def joined (h : Half × Half) : Block := h.1 ++ h.2

/-- One round: the new L is the old R, the new R is the old L exclusive-or F(old R, subkey) (R41). -/
def round (k : Block) (h : Half × Half) (i : Nat) : Half × Half := (h.2, h.1 ^^^ roundF h.2 (subkey k i))

/-- One round undone (R42). -/
def unround (k : Block) (h : Half × Half) (i : Nat) : Half × Half := (h.2 ^^^ roundF h.1 (subkey k i), h.1)

/-- Encipher a block under a key: rounds 0 to 7 (R41). -/
def encipher (k b : Block) : Block := joined ([0, 1, 2, 3, 4, 5, 6, 7].foldl (round k) (halves b))

/-- Decipher a block under a key: rounds 7 down to 0 undone (R42). -/
def decipher (k b : Block) : Block := joined ([7, 6, 5, 4, 3, 2, 1, 0].foldl (unround k) (halves b))

/-- The check value of a key: the high 24 bits of the enciphered zero block (R32). -/
def checkValue (k : Block) : CheckValue := (encipher k 0).extractLsb' 40 24

/-- Both comparisons of the known-answer test (R44). -/
def knownAnswer : Bool :=
  encipher Config.testKey Config.testPlain == Config.testExpected && decipher Config.testKey Config.testExpected == Config.testPlain

/-- The derivation block of a meter key: meter 40 bits, revision 4, supply group 4, the constant 0x3C96 (R39). -/
def derivationBlock (meter rev group : Nat) : Block :=
  BitVec.ofNat 64 (meter * 2 ^ 24 + rev * 2 ^ 20 + group * 2 ^ 16 + 0x3C96)

end Sys2Proof.Machine
end

