-- ==== Sys2Proof/Machine/Keys.lean ====
section
/-! DEFINITION. Uses of the cipher unit and of the key slots: the use counter and self-test, the check before use, meter keys,
authenticators, the zone search and the key revision's resolution (chapter 02, R122); the zeroise (R161) and the link break reset (R172),
which may fall inside such uses. -/

namespace Sys2Proof.Machine

/-- What work under the cipher comes to: a result and the state, or the answer it ends the request with and the state. -/
inductive Res (α : Type) where
  | ok (a : α) (s : State)
  | no (e : Answer) (s : State)

/-- Work that goes on from a result. -/
def Res.andThen {α β : Type} (r : Res α) (f : α → State → Res β) : Res β :=
  match r with
  | .ok a s => f a s
  | .no e s => .no e s

/-- The answer of work that ends a request either way. -/
def Res.served {α : Type} (r : Res α) (f : α → State → Served) : Served :=
  match r with
  | .ok a s => f a s
  | .no e s => answered e s

/-! ### Slots as the key store treats them -/

/-- A key slot as every use and every test of its state meets it: ERASED while a zeroise or its own erasing write is pending (R36, R161). -/
def State.slotAt (s : State) (slot : Nat) : KeySlot :=
  if s.fmn.zeroisePending || s.zks.erasing.contains slot then .erased else pick s.zks.slots slot

/-- Whether a slot is LOADED (R32). -/
def KeySlot.isLoaded : KeySlot → Bool
  | .loaded _ _ => true
  | _ => false

/-- A zone entry (R26). -/
def State.zoneAt (s : State) (zone : Nat) : Zone := pick s.zks.zones zone

/-- Whether a zone entry names a slot (R33). -/
def Zone.names (z : Zone) (slot : Nat) : Bool := z.current.any (·.slot == slot) || z.previous.any (·.slot == slot)

/-- Whether a quote holds a slot (R33, R69). -/
def Quote.holds (q : Quote) (slot : Nat) : Bool := q.key.slot == slot || q.change.any (·.slot == slot)

/-- Whether a base-key slot is in use (R33). -/
def State.slotInUse (s : State) (slot : Nat) : Bool :=
  s.zks.zones.toList.any (·.names slot) || s.qtb.quotes.toList.any fun q => q.any (·.holds slot)

/-! ### Zeroise and link break reset, as their blocks take them -/

/-- The write of a zeroise: every slot ERASED, the configuration lock clear and its key 0; the pending mark is cleared when it is made
(R37, R161). Says whether it was made. -/
def zeroiseWrite (s : State) : Bool × State :=
  retained s
    (fun t =>
      (true, (t.withZks { t.zks with slots := Vector.replicate 16 .erased, erasing := [] }).withFmn
        { t.fmn with zeroisePending := false, configLock := false, lockKey := 0 }))
    fun t => (false, t)

/-- Every OPEN and HELD quote voided by a zeroise or a link break, which the request being served remembers: a quote that it writes later
is voided with the same cause (R76). -/
def strike (note : Note) (s : State) : State :=
  (voidAll note s).withServing (s.serving.map fun v => { v with cause := some note })

/-- A zeroise (R161): pending, then every OPEN and HELD quote voided, then the write. -/
def zeroise (s : State) : Bool × State :=
  zeroiseWrite (strike .voided (s.withFmn { s.fmn with zeroisePending := true }))

/-- The tamper input is asserted: a zeroise if it was released, and none while supply is off (R162). -/
def assertTamper (s : State) : State :=
  if s.tamper then s
  else
    let t := s.withTamper true
    if t.supply then (zeroise t).2 else t

/-- The link break reset (R172): the link's registers and buffers, the reply queue and the reserved place; the lane queues and notes; the
OPEN and HELD quotes. The wire stays low until it is said to have returned high (R171). -/
def linkBreakReset (s : State) : State :=
  let t := s.withOlk { s.olk with
    shift := none, hold := none, asm := .hunt, replies := [], tx := ⟨s.olk.tx.shift, none, 0⟩, breakHeld := true }
  let u := t.withServing (t.serving.map fun v => { v with placeHeld := false })
  let v := strike .none (u.withLqa { u.lqa with queues := Vector.replicate 9 [] })
  v.withLqa { v.lqa with notes := Vector.replicate 8 .none }

/-- The break as the wire shows it: taken once until the wire returns high (R171). -/
def takeBreak (s : State) : State := if s.olk.breakHeld then s else linkBreakReset s

/-- An event taken inside the request being served. -/
def takeEvent (e : MidEvent) (s : State) : State :=
  match e with
  | .tamper => assertTamper s
  | .linkBreak => takeBreak s
  | .fault k => raise k s

/-- The events due at a point inside a request, in order: those due now taken, the next one a point nearer. -/
def takeEvents (events : List (Nat × MidEvent)) (s : State) : State :=
  match events with
  | [] => s.withEnv { s.env with mid := [] }
  | (0, e) :: rest => takeEvents rest (takeEvent e s)
  | (n + 1, e) :: rest => s.withEnv { s.env with mid := (n, e) :: rest }

/-- A point inside a request at which events may fall: before each cipher use, before ACK FAULT's retest, and between the checks and
effects of QUOTE that a void can tell apart (R76, R84, R157, R162, notes/assumptions/12). -/
def midEvent (s : State) : State := takeEvents s.env.mid s

/-! ### Cipher uses (R43 to R45) -/

/-- The self-test's result: the known-answer test's comparisons, unless the unit is upset (R44, notes/assumptions/5). -/
def drawTest (s : State) : Bool × State :=
  match s.env.testFails with
  | [] => (knownAnswer, s)
  | b :: rest => (knownAnswer && !b, s.withEnv { s.env with testFails := rest })

/-- A self-test: the counter is set to 0 and the cipher state to the result; a failure sends a CIPHER_TEST fault (R43, R45). -/
def selfTest (s : State) : Bool × State :=
  match drawTest s with
  | (true, t) => (true, t.withTcu ⟨true, 0⟩)
  | (false, t) => (false, raise .cipherTest (t.withTcu ⟨false, 0⟩))

/-- A use of the cipher unit counted (R43): CIPHER_FAULT while the state is FAILED, and when the test due at 256 uses fails. -/
def countUse (s : State) : Res Unit :=
  if !s.tcu.passed then .no (Answer.bare .cipherFault) s
  else if s.tcu.uses < Config.usesPerTest then .ok () (s.withTcu { s.tcu with uses := s.tcu.uses + 1 })
  else
    match selfTest s with
    | (true, t) => .ok () (t.withTcu { t.tcu with uses := 1 })
    | (false, t) => .no (Answer.bare .cipherFault) t

/-- A use of the cipher under a key that is in no slot (a meter key, a key being loaded). -/
def plainUse (s : State) : Res Unit := countUse (midEvent s)

/-- A use of a slot's key (R32): refused when the slot is not LOADED. Gives the key and its check value. -/
def slotUse (slot : Nat) (s : State) : Res (Block × CheckValue) :=
  let t := midEvent s
  match t.slotAt slot with
  | .loaded k c => (countUse t).andThen fun _ u => .ok (k, c) u
  | _ => .no (Answer.keyUnavailable .notLoaded slot) t

/-- A slot that failed its check: ERASED in one retained write, and a KEY_CHECK fault; treated as ERASED until a failed write is made
(R36). -/
def eraseSlot (slot : Nat) (s : State) : State :=
  match drawWrite s with
  | (false, t) => raise .keyCheck (t.withZks { t.zks with slots := put t.zks.slots slot .erased })
  | (true, t) => raiseBeside .keyCheck (t.withZks { t.zks with erasing := slot :: t.zks.erasing })

/-- The check of a slot before its use (R36). -/
def checkSlot (slot : Nat) (s : State) : Res Unit :=
  (slotUse slot s).andThen fun kc t =>
    if checkValue kc.1 = kc.2 then .ok () t else .no (Answer.keyUnavailable .checkFailed slot) (eraseSlot slot t)

/-- A slot's key checked and used once (R36). -/
def checkedKey (slot : Nat) (s : State) : Res Block :=
  (checkSlot slot s).andThen fun _ t => (slotUse slot t).andThen fun kc u => .ok kc.1 u

/-- The meter key of a meter of a zone at a revision, from the slot that holds it; the supply group as the zone holds it now (R39). -/
def deriveKey (zone meter : Nat) (k : KeyRef) (s : State) : Res Block :=
  (checkedKey k.slot s).andThen fun base t => .ok (encipher base (derivationBlock meter k.rev (t.zoneAt zone).group)) t

/-- The blocks of an authenticator chained under the office key (R122). -/
def chain (a : Block) : List Block → State → Res Block
  | [], s => .ok a s
  | b :: bs, s => (slotUse 1 s).andThen fun kc t => chain (encipher kc.1 (a ^^^ b)) bs t

/-- The authenticator of a record's blocks: slot 1 checked, then the chain (R122). -/
def authenticator (bs : List Block) (s : State) : Res Block := (checkSlot 1 s).andThen fun _ t => chain 0 bs t

/-! ### Zones -/

/-- The zone search's outcome (R27). -/
inductive ZoneFound | zone (index : Nat) | none | embargo
deriving DecidableEq, Repr

/-- The zone search over entries numbered from `i` (R27). -/
def searchFrom (meter : Pattern) : Nat → List Zone → ZoneFound
  | _, [] => .none
  | i, z :: zs =>
    if z.action = .unused then searchFrom meter (i + 1) zs
    else if meter &&& z.mask = z.value &&& z.mask then (if z.action = .accept then .zone i else .embargo)
    else searchFrom meter (i + 1) zs

/-- The zone search for a meter number (R27). -/
def State.zoneSearch (s : State) (meter : Nat) : ZoneFound := searchFrom (BitVec.ofNat 40 meter) 0 s.zks.zones.toList

/-- How a key revision resolves against a zone (R38). -/
inductive Resolution
  | same (current : KeyRef)
  | due (previous current : KeyRef)
  | stranded
deriving DecidableEq, Repr

/-- A revision resolved against a zone entry as it stands (R38). -/
def Zone.resolve (z : Zone) (rev : Nat) : Resolution :=
  match z.action, z.current, z.previous with
  | .unused, _, _ => .stranded
  | _, none, _ => .stranded
  | _, some c, p =>
    if c.rev = rev then .same c
    else match p with
      | some k => if k.rev = rev then .due k c else .stranded
      | none => .stranded

/-- The slot a zone names for a revision, as its current or its previous (R109). None when it names none, or is UNUSED. -/
def Zone.keyFor (z : Zone) (rev : Nat) : Option KeyRef :=
  match z.resolve rev with
  | .same c => some c
  | .due p _ => some p
  | .stranded => none

end Sys2Proof.Machine
end

