-- ==== Sys2Proof/Machine/Tokens.lean ====
section
/-! DEFINITION. Token identifiers, the plain token block, the token set and its encipherment (chapter 05). -/

namespace Sys2Proof.Machine

/-- The first identifier a sale takes: the clock minute or the last TID plus 1, whichever is larger (R73, R97). -/
def firstTid (minute : Nat) (last : Option Nat) : Nat :=
  match last with
  | some t => max minute (t + 1)
  | none => minute

/-- A token's class (R101). -/
inductive TokenClass | credit | free | keyPart
deriving DecidableEq, Repr

/-- A token class as its field (R101). -/
def TokenClass.code : TokenClass → Nat
  | .credit => 1
  | .free => 2
  | .keyPart => 8

/-- A token class from its field (R101). -/
def TokenClass.ofCode : Nat → Option TokenClass
  | 1 => some .credit
  | 2 => some .free
  | 8 => some .keyPart
  | _ => none

/-- The check of a token over its first 48 bits as six bytes (R103). -/
def tokenCheck (b : Block) : Crc := crc16 ([56, 48, 40, 32, 24, 16].map fun i => b.extractLsb' i 8)

/-- The plain token block: class, identifier, payload, check (R101, R175). -/
def plainToken (c : TokenClass) (tid payload : Nat) : Block :=
  let b := BitVec.ofNat 64 (c.code * 2 ^ 60 + tid * 2 ^ 36 + payload * 2 ^ 16)
  b ||| (tokenCheck b).setWidth 64

/-- The payload of key part `part`: its index, its 16 bits of the new key, the low 2 bits of the new revision (R102). -/
def keyPartPayload (newKey : Block) (newRev part : Nat) : Nat :=
  part * 2 ^ 18 + (newKey.extractLsb' (48 - 16 * part) 16).toNat * 4 + newRev % 4

/-- What a token set carries: the key change's new revision if it has one, the credit and the free units (R100). -/
structure TokenSet where
  newRev : Option Nat
  credit : Nat
  free : Nat
deriving DecidableEq, Repr

/-- The tokens of a set without identifiers, in order: the key they are enciphered under, class and payload (R100, R102, R104).
`toKey` is the key the meter is to hold, `fromKey` the one it held before a key change. -/
def TokenSet.parts (t : TokenSet) (toKey fromKey : Block) : List (Block × TokenClass × Nat) :=
  (match t.newRev with
    | some r => [0, 1, 2, 3].map fun p => (fromKey, .keyPart, keyPartPayload toKey r p)
    | none => []) ++
  (if 0 < t.credit then [(toKey, .credit, t.credit)] else []) ++
  (if 0 < t.free then [(toKey, .free, t.free)] else [])

/-- The tokens of a set enciphered in order with rising identifiers, each one cipher use (R105, R106). -/
def encipherParts : Nat → List (Block × TokenClass × Nat) → State → Res (List Block)
  | _, [], s => .ok [] s
  | tid, (k, c, p) :: rest, s =>
    (plainUse s).andThen fun _ t =>
      (encipherParts (tid + 1) rest t).andThen fun bs u => .ok (encipher k (plainToken c tid p) :: bs) u

/-- The meter keys of a set derived (the one CREDIT and FREE go under first), and its tokens formed and enciphered (R106, R109). -/
def formSet (zone meter : Nat) (key : KeyRef) (change : Option KeyRef) (tid : Nat) (set : TokenSet) (s : State) : Res (List Block) :=
  (deriveKey zone meter key s).andThen fun toKey t =>
    match change with
    | none => encipherParts tid (set.parts toKey toKey) t
    | some k => (deriveKey zone meter k t).andThen fun fromKey u => encipherParts tid (set.parts toKey fromKey) u

/-- A decoded token: class, identifier and payload (R113). -/
structure Decoded where
  cls : TokenClass
  tid : Nat
  payload : Nat
deriving DecidableEq, Repr

/-- A deciphered block read as a token: the check agrees and the class is one the part forms (R113). -/
def readToken (b : Block) : Option Decoded :=
  if b.extractLsb' 0 16 = tokenCheck b then
    (TokenClass.ofCode (b.extractLsb' 60 4).toNat).map fun c => ⟨c, (b.extractLsb' 36 24).toNat, (b.extractLsb' 16 20).toNat⟩
  else none

/-- The payload VERIFY reports: the 16 key bits of a KEY PART stand as 0 (R114). -/
def Decoded.reported (d : Decoded) : Nat :=
  match d.cls with
  | .keyPart => d.payload / 2 ^ 18 * 2 ^ 18 + d.payload % 4
  | _ => d.payload

end Sys2Proof.Machine
end

