-- ==== Sys2Proof/Machine/Sales.lean ====
section
/-! DEFINITION. QUOTE, ISSUE, WITHDRAW, COUNTERSIGN, SET_COUNTERSIGN and LEASE_EXPIRY (chapter 04), REPRINT and VERIFY (chapter 05). -/

namespace Sys2Proof.Machine

/-! ### QUOTE (R71 to R75) -/

/-- The float's mode is RESTRICTED: no deadline, or the clock minute at or above it (R116). -/
def State.restrictedMode (s : State) : Bool := s.flt.deadline.all fun d => decide (d ≤ s.clk.minute)

/-- The plan a plan index names in the active bank (R47, R53). -/
def State.planAt (s : State) (index : Nat) : Option Plan := pick s.ttb.active index

/-- Seconds of the clock since minute 0. -/
def Clk.seconds (c : Clk) : Nat := c.minute * 60 + c.second

/-- The clock's last second (R133). -/
def lastSecond : Nat := Config.lastMinute * 60 + 59

/-- When a lease that starts now runs out, set at the clock's end when it would pass it (R74, R133). -/
def leaseEnd (c : Clk) (lease : Nat) : Nat := min (c.seconds + lease) lastSecond

/-- The first of the slots a sale needs that is not LOADED: the current slot, then with a key change the previous (R72). -/
def State.unloaded (s : State) (slots : List Nat) : Option Nat := slots.find? fun n => !(s.slotAt n).isLoaded

/-- The slots a key and a key change name, the key's first. -/
def neededSlots (key : KeyRef) (change : Option KeyRef) : List Nat := key.slot :: (change.map (·.slot)).toList

/-- The OK payload of QUOTE (R75, R175). -/
def quotePayload (q : Quote) (arrears : Nat) : List Byte :=
  fieldBytes [(5, q.meter), (4, q.offered), (4, q.accepted), (4, q.fixed), (4, q.recovery), (4, arrears), (2, q.energy), (2, q.free),
    (1, orFF (q.change.map (·.rev))), (1, orFF (q.change.map fun _ => q.key.rev)), (1, q.count), (3, q.leaseMinute), (1, q.leaseSecond),
    (1, quoteFlags q), (1, quoteTag q), (2, q.month), (2, q.generation)]

/-- The quote a sale's figures open (R69, R74, R93): the review tag when the review counter is PENDING, the threshold tag when the
threshold is above 0 and the accepted tender reaches it; HELD with either. -/
def newQuote (s : State) (lane : Nat) (e : Entry) (shadow offered : Nat) (f : Figures) (key : KeyRef) (change : Option KeyRef) : Quote :=
  let lease := leaseEnd s.clk s.flt.lease
  let review := decide (s.qtb.review = .pending)
  let threshold := decide (0 < s.qtb.threshold ∧ s.qtb.threshold ≤ f.accepted)
  { lane := lane, meter := e.meter, live := e.slot, shadow := shadow, offered := offered, accepted := f.accepted, fixed := f.fixed
    recovery := f.recovery, energy := f.energy, free := f.free, clamped := f.clamped, restricted := f.restricted
    change := change, key := key, count := f.tokenCount change.isSome, month := s.clk.month, generation := s.ttb.generation
    leaseMinute := lease / 60, leaseSecond := lease % 60
    state := if review || threshold then .held else .opened, review := review, threshold := threshold }

/-- The entry written, the reservation added, the review counter stopped when the quote took its tag (R74, R93, R117). -/
def placeQuote (lane : Nat) (q : Quote) (s : State) : State :=
  let t := setQuote lane (some q) (s.withFlt { s.flt with reserved := s.flt.reserved + q.accepted })
  if q.review then t.withQtb { t.qtb with review := .stopped lane } else t

/-- The entry written as `placeQuote` writes it, and voided as soon as it is written when a zeroise or a link break has been taken while
the QUOTE was served (R76). -/
def openQuote (lane : Nat) (q : Quote) (s : State) : State :=
  let t := placeQuote lane q s
  match t.serving.bind (·.cause) with
  | some note => voidWaiting note lane t
  | none => t

/-- QUOTE from check 8 of R71 on: the keys the sale needs are loaded. `r` is the record as rolled. -/
def quotePriced (lane offered : Nat) (e : Entry) (r : Record) (key : KeyRef) (change : Option KeyRef) (g : State) : Served :=
  let s := midEvent g
  if !s.tcu.passed then refuse .cipherFault s
  else if s.clk.minute = Config.lastMinute then refuse .clockEnd s
  else if Config.maxCents < offered then refuse .outOfRange s
  else
    match s.planAt r.plan with
    | none => refuse .noPlan s
    | some p =>
      match computeCredit r p offered (if s.restrictedMode then some s.flt.cap else none) with
      | .error st => refuse st s
      | .ok f =>
        let last := firstTid s.clk.minute r.lastTid + f.tokenCount change.isSome - 1
        if Config.lastMinute < last then refuse .clockEnd s
        else if s.clk.minute + Config.runAhead < last then refuse .rateLimit s
        else if s.flt.balance - s.flt.reserved < f.accepted then
          answered ⟨.floatShort, beBytes 4 (s.flt.balance - s.flt.reserved), none⟩ s
        else
          writeVersion (f.version s.clk.month r) (midEvent s) fun shadow t =>
            let u := midEvent t
            let q := newQuote u lane e shadow offered f key change
            answered (Answer.ok (quotePayload q (r.arrears - f.recovery))) (openQuote lane q u)

/-- QUOTE's key checks: the slots needed are LOADED (R71 check 7, R72). -/
def quoteKeyed (lane offered : Nat) (e : Entry) (r : Record) (key : KeyRef) (change : Option KeyRef) (g : State) : Served :=
  let s := midEvent g
  match s.unloaded (neededSlots key change) with
  | some n => answered (Answer.keyUnavailable .notLoaded n) s
  | none => quotePriced lane offered e r key change s

/-- QUOTE's checks 4 to 7 on a record that passed its check code. -/
def quoteFound (lane meter offered : Nat) (e : Entry) (r : Record) (s : State) : Served :=
  if r.state = .suspended then refuse .suspended s
  else if (s.quoteLane meter).isSome then refuse .meterBusy s
  else if (s.zoneAt r.zone).action = .embargo then refuse .zoneEmbargo s
  else
    match (s.zoneAt r.zone).resolve r.revision with
    | .stranded => answered Answer.stranded s
    | .same c => quoteKeyed lane offered e r c none s
    | .due p c => quoteKeyed lane offered e r c (some p) s

/-- QUOTE after the checks of R150: the note is cleared, then the checks of R71. -/
def quoteBody (lane meter offered : Nat) (g : State) : Served :=
  let s := midEvent (setNote lane .none g)
  if (s.quoteAt lane).isSome then refuse .quoteOpen s
  else
    match findRecord meter s with
    | .missing => refuse .notFound s
    | .bad _ t => refuse .quarantined t
    | .good e r => quoteFound lane meter offered e (r.rolled s.clk.month) (midEvent s)

/-- QUOTE (R71). -/
def execQuote (lane tag meter tender : Nat) (s : State) : Host.Outcome State Fault Refusal :=
  serve (.quote lane tag meter tender) s (quoteBody lane meter tender)

/-! ### The review counter (R92, R95) -/

/-- The effective review period (R92). -/
def effectivePeriod (p : Nat) : Nat := if p = 0 then 0 else if p ≤ 7 then 8 else p

/-- A committed issue counted (R92). -/
def countIssue (q : Qtb) : Qtb :=
  match q.review with
  | .counting v =>
    if 0 < effectivePeriod q.period then
      { q with review := if v + 1 = effectivePeriod q.period then .pending else .counting (v + 1) }
    else q
  | _ => q

/-- New review figures act on the counter at once (R95). -/
def reviewUnder (oldEffective newEffective : Nat) : Review → Review
  | .counting v => if 0 < newEffective ∧ newEffective ≤ v then .pending else .counting v
  | .pending => if newEffective = 0 then .counting oldEffective else .pending
  | .stopped lane => .stopped lane

/-- SET COUNTERSIGN after the checks of R150. -/
def setCountersignBody (period threshold : Nat) (s : State) : Served :=
  if s.fmn.configLock then refuse .configLocked s
  else if 1023 < period ∨ Config.maxCents < threshold then refuse .outOfRange s
  else
    retained s
      (fun t =>
        let review := reviewUnder (effectivePeriod t.qtb.period) (effectivePeriod period) t.qtb.review
        answered (Answer.ok (fieldBytes [(2, period), (2, effectivePeriod period)]))
          (t.withQtb { t.qtb with period := period, threshold := threshold, review := review }))
      (refuse .storeFault)

/-- SET COUNTERSIGN (R95). -/
def execSetCountersign (lane tag period threshold : Nat) (s : State) : Host.Outcome State Fault Refusal :=
  serve (.setCountersign lane tag period threshold) s (setCountersignBody period threshold)

/-! ### ISSUE (R79 to R83) -/

/-- A lane without a quote answers an ISSUE or a WITHDRAW from its outcome note, which is cleared (R79, R85). -/
def answerNote (lane : Nat) (s : State) : Served :=
  match s.noteAt lane with
  | .expired => refuse .late (setNote lane .none s)
  | .voided => refuse .voided (setNote lane .none s)
  | .none => refuse .noQuote s

/-- The token set of a quote (R100). -/
def Quote.tokenSet (q : Quote) : TokenSet := ⟨q.change.map fun _ => q.key.rev, q.energy, q.free⟩

/-- The completed version: last TID, last issue and, with a key change, the new revision (R107). -/
def Quote.complete (q : Quote) (tid : Nat) (r : Record) : Record :=
  { r with
    lastTid := some (tid + q.count - 1)
    issue := some ⟨tid, q.count, q.energy, q.free, q.change.map fun k => ⟨k.rev, q.key.rev⟩⟩
    revision := if q.change.isSome then q.key.rev else r.revision }

/-- A saturating addition to an accumulator (R121). -/
def addTotal (a b : Nat) : Nat := min (a + b) Config.maxTotal

/-- A sale's figures added to the settlement accumulators (R82, R121). -/
def Totals.add (t : Totals) (q : Quote) : Totals :=
  ⟨addTotal t.tokens q.count, addTotal t.credit q.energy, addTotal t.free q.free, addTotal t.tender q.accepted,
   addTotal t.fixed q.fixed, addTotal t.recovery q.recovery⟩

/-- What the commit step's write makes: the slot swap, the old slot freed, the float drawn, the accumulators increased (R82, R119). -/
def commitStep (q : Quote) (s : State) : State :=
  (freeSlot q.live (s.withDir (s.dir.swap q.meter q.shadow))).withFlt
    { s.flt with balance := s.flt.balance - q.accepted, reserved := s.flt.reserved - q.accepted, totals := s.flt.totals.add q }

/-- What follows a commit step: the entry empties and the review counter takes account of the issue (R83, R92, R94). -/
def closeSale (lane : Nat) (q : Quote) (s : State) : State :=
  let t := setQuote lane none s
  releaseReview q (t.withQtb (countIssue t.qtb))

/-- The OK payload of ISSUE (R83, R175). -/
def issuePayload (q : Quote) (tid : Nat) (tokens : List Block) : List Byte :=
  fieldBytes [(5, q.meter), (4, q.accepted), (2, q.energy), (2, q.free), (3, tid), (1, q.count)] ++ tokens.flatMap tokenDigits

/-- An issue that fails: the quote is voided, its note left as it is, and the failure's answer given (R76, R80). -/
def failIssue (lane : Nat) (a : Answer) (s : State) : Served := answered a (voidQuote lane s)

/-- An ISSUING quote from its token set on: completion, commit step, reply (R81 to R83). -/
def commitIssue (lane : Nat) (q : Quote) (tid : Nat) (tokens : List Block) (s : State) : Served :=
  retained s
    (fun t =>
      retained (writeSlot q.shadow (q.complete tid (t.record q.shadow)).sealed t)
        (fun u => answered (Answer.ok (issuePayload q tid tokens)) (closeSale lane q (commitStep q u)))
        (failIssue lane (Answer.bare .storeFault)))
    (failIssue lane (Answer.bare .storeFault))

/-- An OPEN quote taken into ISSUING: identifiers, keys, tokens, then the commit (R80, R97, R106). -/
def proceedIssue (lane : Nat) (q : Quote) (g : State) : Served :=
  let s := setQuote lane (some { q with state := .issuing }) g
  let r := s.record q.shadow
  let tid := firstTid s.clk.minute r.lastTid
  if s.clk.minute = Config.lastMinute ∨ Config.lastMinute < tid + q.count - 1 then failIssue lane (Answer.bare .clockEnd) s
  else
    match formSet r.zone q.meter q.key q.change tid q.tokenSet s with
    | .no a t => failIssue lane a t
    | .ok tokens t => commitIssue lane q tid tokens t

/-- ISSUE after the checks of R150 (R79). -/
def issueBody (lane : Nat) (s : State) : Served :=
  match s.quoteAt lane with
  | none => answerNote lane s
  | some q =>
    match q.state with
    | .held => refuse .countersignRequired s
    | .issuing => .fault .quoteIssuing
    | .opened => if !s.tcu.passed then refuse .cipherFault s else proceedIssue lane q s

/-- ISSUE (R79). -/
def execIssue (lane tag : Nat) (s : State) : Host.Outcome State Fault Refusal := serve (.issue lane tag) s (issueBody lane)

/-! ### WITHDRAW, COUNTERSIGN and the lease expiry (R77, R85, R96) -/

/-- WITHDRAW after the checks of R150 (R85). -/
def withdrawBody (lane : Nat) (s : State) : Served :=
  match s.quoteAt lane with
  | none => answerNote lane s
  | some q =>
    if q.state = .issuing then .fault .quoteIssuing
    else answered (Answer.ok (fieldBytes [(5, q.meter), (4, q.accepted)])) (voidQuote lane s)

/-- WITHDRAW (R85). -/
def execWithdraw (lane tag : Nat) (s : State) : Host.Outcome State Fault Refusal := serve (.withdraw lane tag) s (withdrawBody lane)

/-- COUNTERSIGN after the checks of R150 (R96). -/
def countersignBody (counter : Nat) (s : State) : Served :=
  if counter = 0 ∨ 8 < counter then refuse .outOfRange s
  else
    match s.quoteAt counter with
    | some q =>
      if q.state = .held then
        answered (Answer.ok (fieldBytes [(5, q.meter), (4, q.accepted), (1, quoteTag q), (3, q.leaseMinute), (1, q.leaseSecond)]))
          (setQuote counter (some { q with state := .opened }) s)
      else refuse .noQuote s
    | none => refuse .noQuote s

/-- COUNTERSIGN (R96). -/
def execCountersign (lane tag counter : Nat) (s : State) : Host.Outcome State Fault Refusal :=
  serve (.countersign lane tag counter) s (countersignBody counter)

/-- Whether the clock stands at or past a quote's lease expiry (R134). -/
def Quote.leaseReached (q : Quote) (c : Clk) : Bool := decide (q.leaseMinute * 60 + q.leaseSecond ≤ c.seconds)

/-- The lease expiry of a lane's quote: voided with note EXPIRED if OPEN or HELD, left alone if ISSUING (R77). No event while the lease
runs or the lane has no quote. -/
def execLeaseExpiry (lane : Nat) (s : State) : Host.Outcome State Fault Refusal :=
  powered s fun s => if (s.quoteAt lane).any (·.leaseReached s.clk) then voidWaiting .expired lane s else s

/-! ### REPRINT (R108 to R111) -/

/-- The OK payload of REPRINT (R111, R175). -/
def reprintPayload (meter : Nat) (i : LastIssue) (tokens : List Block) : List Byte :=
  fieldBytes [(5, meter), (3, i.firstTid), (1, i.count), (2, i.credit), (2, i.free), (1, orFF (i.change.map (·.fromRev))),
    (1, orFF (i.change.map (·.toRev)))] ++ tokens.flatMap tokenDigits

/-- REPRINT once its revisions have slots: the slots, the cipher state, then the set (R108 checks 5 and 6, R109). -/
def reprintKeyed (meter : Nat) (r : Record) (i : LastIssue) (key : KeyRef) (change : Option KeyRef) (s : State) : Served :=
  match s.unloaded (neededSlots key change) with
  | some n => answered (Answer.keyUnavailable .notLoaded n) s
  | none =>
    if !s.tcu.passed then refuse .cipherFault s
    else
      (formSet r.zone meter key change i.firstTid ⟨i.change.map (·.toRev), i.credit, i.free⟩ s).served fun tokens t =>
        answered (Answer.ok (reprintPayload meter i tokens)) t

/-- REPRINT's revisions, each with the slot the zone now names for it (R108 check 4, R109). -/
def reprintFound (meter : Nat) (r : Record) (s : State) : Served :=
  match r.issue with
  | none => refuse .noIssue s
  | some i =>
    let z := s.zoneAt r.zone
    match i.change with
    | none =>
      match z.keyFor r.revision with
      | some k => reprintKeyed meter r i k none s
      | none => answered Answer.stranded s
    | some c =>
      match z.keyFor c.toRev, z.keyFor c.fromRev with
      | some k, some f => reprintKeyed meter r i k (some f) s
      | _, _ => answered Answer.stranded s

/-- REPRINT after the checks of R150. -/
def reprintBody (meter : Nat) (s : State) : Served :=
  match findRecord meter s with
  | .missing => refuse .notFound s
  | .bad _ t => refuse .quarantined t
  | .good _ r => reprintFound meter r s

/-- REPRINT (R108). -/
def execReprint (lane tag meter : Nat) (s : State) : Host.Outcome State Fault Refusal :=
  serve (.reprint lane tag meter) s (reprintBody meter)

/-! ### VERIFY (R112 to R114) -/

/-- One decode attempt: the meter key derived, then the token deciphered under it (R113). -/
def attempt (zone meter : Nat) (k : KeyRef) (token : Block) (s : State) : Res (Option Decoded) :=
  (deriveKey zone meter k s).andThen fun key t => (plainUse t).andThen fun _ u => .ok (readToken (decipher key token)) u

/-- The OK payload of VERIFY: the revisions tried, whether a second attempt was passed over, and what decoded with its revision (R114,
R175). The fields of a token that did not decode are left open. -/
def verifyPayload (s : State) (meter : Nat) (last : Option Nat) (first : Nat) (second : Option Nat) (passedOver : Bool)
    (found : Option (Decoded × Nat)) : List Byte :=
  fieldBytes [(5, meter), (1, first), (1, orFF second), (1, bit passedOver), (1, bit found.isSome)] ++
    match found with
    | some (d, rev) =>
      fieldBytes [(1, d.cls.code), (3, d.tid), (3, d.reported), (1, rev), (1, bit (last.all fun t => decide (t < d.tid)))]
    | none => openBytes s 9 7 ++ [0xFF] ++ openBytes s 17 1

/-- VERIFY's second attempt, when the first did not decode: at the zone's previous revision, if it differs and its slot is LOADED (R113). -/
def verifySecond (meter : Nat) (r : Record) (token : Block) (s : State) : Served :=
  match (s.zoneAt r.zone).previous with
  | some p =>
    if p.rev = r.revision then answered (Answer.ok (verifyPayload s meter r.lastTid r.revision none false none)) s
    else if (s.slotAt p.slot).isLoaded then
      (attempt r.zone meter p token s).served fun d t =>
        answered (Answer.ok (verifyPayload t meter r.lastTid r.revision (some p.rev) false (d.map fun x => (x, p.rev)))) t
    else answered (Answer.ok (verifyPayload s meter r.lastTid r.revision none true none)) s
  | none => answered (Answer.ok (verifyPayload s meter r.lastTid r.revision none false none)) s

/-- VERIFY on a record that passed its check code (R112 checks 3 to 5, R113). -/
def verifyFound (meter : Nat) (r : Record) (token : Block) (s : State) : Served :=
  match (s.zoneAt r.zone).keyFor r.revision with
  | none => answered Answer.stranded s
  | some k =>
    if !(s.slotAt k.slot).isLoaded then answered (Answer.keyUnavailable .notLoaded k.slot) s
    else if !s.tcu.passed then refuse .cipherFault s
    else
      (attempt r.zone meter k token s).served fun d t =>
        match d with
        | some x => answered (Answer.ok (verifyPayload t meter r.lastTid r.revision none false (some (x, r.revision)))) t
        | none => verifySecond meter r token t

/-- VERIFY after the checks of R150. -/
def verifyBody (meter token : Nat) (s : State) : Served :=
  match findRecord meter s with
  | .missing => refuse .notFound s
  | .bad _ t => refuse .quarantined t
  | .good _ r => verifyFound meter r (BitVec.ofNat 64 token) s

/-- VERIFY (R112). -/
def execVerify (lane tag meter token : Nat) (s : State) : Host.Outcome State Fault Refusal :=
  serve (.verify lane tag meter token) s (verifyBody meter token)

end Sys2Proof.Machine
end

