-- ==== Sys2Proof/Machine/Zones.lean ====
section
/-! DEFINITION. ZONE SET, KEY LOAD, KEY ROLL and the retry of an erasing write (chapter 02). -/

namespace Sys2Proof.Machine

/-- A retained write of a request's own: made, with its reply, or answered STORE_FAULT with nothing changed (R30, R144, R154). -/
def writeOr (s : State) (made : State → Served) : Served := retained s made (refuse .storeFault)

/-! ### ZONE SET (R29, R30) -/

/-- The revisions a ZONE SET's keys part carries: the current first, then the previous (R29). -/
def zoneGiven (f : ZoneFields) : List KeyRef :=
  (if 1 ≤ f.keys then [⟨f.currentRev, f.currentSlot⟩] else []) ++ (if 2 ≤ f.keys then [⟨f.previousRev, f.previousSlot⟩] else [])

/-- A revision 0 to 15 with a slot 2 to 15 (R26, R29). -/
def KeyRef.valid (k : KeyRef) : Bool := decide (k.rev ≤ 15) && decide (2 ≤ k.slot) && decide (k.slot ≤ 15)

/-- ZONE SET's first OUT_OF_RANGE check, with the enumerated values judged in its place (R29, R175). -/
def zoneInRange (zone : Nat) (f : ZoneFields) : Bool :=
  decide (zone ≤ 15) && decide (f.group ≤ 15) && (ZoneAction.ofCode f.action).isSome && decide (f.keys ≤ 2) && (zoneGiven f).all (·.valid) &&
  !(decide (2 ≤ f.keys) && (f.previousRev == f.currentRev || f.previousSlot == f.currentSlot))

/-- A keys part beside UNUSED, or none beside ACCEPT or EMBARGO on an entry now UNUSED (R29). -/
def keysMisplaced (f : ZoneFields) (z : Zone) : Bool :=
  if f.action = 0 then decide (1 ≤ f.keys) else decide (f.keys = 0) && decide (z.action = .unused)

/-- Whether another zone entry names a slot as current or previous (R29). -/
def State.namedElsewhere (s : State) (zone slot : Nat) : Bool :=
  (List.range 16).any fun i => decide (i ≠ zone) && (s.zoneAt i).names slot

/-- The entry a ZONE SET writes over `z` (R30). -/
def zoneWritten (f : ZoneFields) (z : Zone) : Zone :=
  let action := (ZoneAction.ofCode f.action).getD .unused
  { action := action, value := BitVec.ofNat 40 f.value, mask := BitVec.ofNat 40 f.mask, group := f.group
    current := if action = .unused then none else if f.keys = 0 then z.current else (zoneGiven f)[0]?
    previous := if action = .unused then none else if f.keys = 0 then z.previous else (zoneGiven f)[1]? }

/-- A zone entry as ZONE SET's reply carries it (R30, R175). -/
def zonePayload (z : Zone) : List Byte :=
  fieldBytes [(1, z.action.code), (5, z.value.toNat), (5, z.mask.toNat), (1, z.group), (1, bit z.current.isSome + bit z.previous.isSome),
    (1, orFF (z.current.map (·.rev))), (1, orFF (z.current.map (·.slot))), (1, orFF (z.previous.map (·.rev))),
    (1, orFF (z.previous.map (·.slot)))]

/-- ZONE SET after the checks of R150 (R29, R30). -/
def zoneSetBody (zone : Nat) (f : ZoneFields) (s : State) : Served :=
  if s.fmn.configLock then refuse .configLocked s
  else if !zoneInRange zone f then refuse .outOfRange s
  else if keysMisplaced f (s.zoneAt zone) then refuse .outOfRange s
  else if (zoneGiven f).any fun k => s.namedElsewhere zone k.slot then refuse .slotInUse s
  else
    match s.unloaded ((zoneGiven f).map (·.slot)) with
    | some n => answered (Answer.keyUnavailable .notLoaded n) s
    | none =>
      let z := zoneWritten f (s.zoneAt zone)
      writeOr s fun t => answered (Answer.ok (zonePayload z)) (t.withZks { t.zks with zones := put t.zks.zones zone z })

/-- ZONE SET (R29). -/
def execZoneSet (lane tag zone : Nat) (f : ZoneFields) (s : State) : Host.Outcome State Fault Refusal :=
  serve (.zoneSet lane tag zone f) s (zoneSetBody zone f)

/-! ### KEY ROLL (R31) -/

/-- A zone entry rolled to a new revision in a slot (R31). -/
def Zone.rolledTo (z : Zone) (c : KeyRef) (slot : Nat) : Zone :=
  { z with current := some ⟨(c.rev + 1) % 16, slot⟩, previous := some c }

/-- The current revision of a zone entry that is not UNUSED (R26). -/
def Zone.inUse (z : Zone) : Option KeyRef := if z.action = .unused then none else z.current

/-- KEY ROLL after the checks of R150 (R31). -/
def keyRollBody (zone slot : Nat) (s : State) : Served :=
  if s.fmn.configLock then refuse .configLocked s
  else if 15 < zone ∨ slot < 2 ∨ 15 < slot then refuse .outOfRange s
  else
    match (s.zoneAt zone).inUse with
    | none => refuse .noZone s
    | some c =>
      if s.slotInUse slot then refuse .slotInUse s
      else if !(s.slotAt slot).isLoaded then answered (Answer.keyUnavailable .notLoaded slot) s
      else
        writeOr s fun t =>
          answered
            (Answer.ok (fieldBytes [(1, (c.rev + 1) % 16), (1, c.rev), (1, orFF ((t.zoneAt zone).previous.map (·.slot)))]))
            (t.withZks { t.zks with zones := put t.zks.zones zone ((t.zoneAt zone).rolledTo c slot) })

/-- KEY ROLL (R31). -/
def execKeyRoll (lane tag zone slot : Nat) (s : State) : Host.Outcome State Fault Refusal :=
  serve (.keyRoll lane tag zone slot) s (keyRollBody zone slot)

/-! ### KEY LOAD (R34, R35) -/

/-- Whether KEY LOAD is refused SLOT_IN_USE: slot 0 while it is LOADED, slots 2 to 15 while in use, slot 1 never (R33, R34). -/
def State.loadBlocked (s : State) (slot : Nat) : Bool :=
  if slot = 0 then (s.slotAt 0).isLoaded else decide (2 ≤ slot) && s.slotInUse slot

/-- The key a KEY LOAD loads: the field in clear for slot 0, else unwrapped under slot 0, checked first (R35, R36). -/
def loadedKey (slot : Nat) (field : Block) (s : State) : Res Block :=
  if slot = 0 then .ok field s else (checkedKey 0 s).andThen fun base t => .ok (decipher base field) t

/-- The target slot LOADED with the key and its check value, in one retained write; a zeroise still pending refuses the write with
STORE_FAULT (R35, R161). A load ends an erasing write still owed to the slot (DEDUCED, notes/assumptions/14). -/
def storeKey (slot : Nat) (key : Block) (s : State) : Served :=
  if s.fmn.zeroisePending then refuse .storeFault s
  else
    writeOr s fun t =>
      answered (Answer.ok (fieldBytes [(1, slot), (3, (checkValue key).toNat)]))
        (t.withZks { t.zks with
          slots := put t.zks.slots slot (.loaded key (checkValue key)), erasing := t.zks.erasing.filter (· != slot) })

/-- KEY LOAD after the checks of R150 (R34, R35). -/
def keyLoadBody (slot key check : Nat) (s : State) : Served :=
  if s.fmn.configLock then refuse .configLocked s
  else if 15 < slot then refuse .outOfRange s
  else if s.loadBlocked slot then refuse .slotInUse s
  else if !s.tcu.passed then refuse .cipherFault s
  else
    (loadedKey slot (BitVec.ofNat 64 key) s).served fun k t =>
      (plainUse t).served fun _ u =>
        if (checkValue k).toNat = check then storeKey slot k u else refuse .badAuthenticator u

/-- KEY LOAD (R34). -/
def execKeyLoad (lane tag slot key check : Nat) (s : State) : Host.Outcome State Fault Refusal :=
  serve (.keyLoad lane tag slot key check) s (keyLoadBody slot key check)

/-! ### The retry of an erasing write (R36) -/

/-- The erasing write owed to a slot made again (R36). No event when none is owed. -/
def execKeyEraseRetry (slot : Nat) (s : State) : Host.Outcome State Fault Refusal :=
  powered s fun s =>
    if s.zks.erasing.contains slot then
      retained s
        (fun t => t.withZks { t.zks with slots := put t.zks.slots slot .erased, erasing := t.zks.erasing.filter (· != slot) }) id
    else s

end Sys2Proof.Machine
end

