-- ==== Sys2Proof/Machine/Tariffs.lean ====
section
/-! DEFINITION. LOAD PLAN and ARM PLANS, and the swap of the banks (chapter 03). -/

namespace Sys2Proof.Machine

/-! ### LOAD PLAN (R46, R48, R49) -/

/-- The bounds a LOAD PLAN uses: of each block but the last (R48). -/
def planBounds (f : PlanFields) : List Nat := [f.bound1, f.bound2, f.bound3].take (f.blocks - 1)

/-- The prices a LOAD PLAN uses, one for each block (R48). -/
def planPrices (f : PlanFields) : List Nat := [f.price1, f.price2, f.price3, f.price4].take f.blocks

/-- Every field of a plan that is used in its range, the bounds strictly ascending (R46, R48). -/
def planValid (f : PlanFields) : Bool :=
  decide (1 ≤ f.blocks) && decide (f.blocks ≤ 4) && decide (f.fixed ≤ 100000) && decide (f.minimum ≤ 100000) && decide (1 ≤ f.ceiling) &&
  decide (f.ceiling ≤ Config.maxUnits) && decide (f.free ≤ Config.maxFree) &&
  (planPrices f).all (fun p => decide (1 ≤ p) && decide (p ≤ 100000)) &&
  (planBounds f).all (fun b => decide (1 ≤ b) && decide (b ≤ Config.maxUnits)) && decide ((planBounds f).Pairwise (· < ·))

/-- The plan a LOAD PLAN gives (R46). -/
def planGiven (f : PlanFields) : Plan :=
  ⟨f.fixed, f.minimum, f.ceiling, f.free, (planBounds f).zip (planPrices f), (planPrices f).getLastD 0⟩

/-- LOAD PLAN after the checks of R150 (R48, R49). -/
def loadPlanBody (index clear : Nat) (f : PlanFields) (s : State) : Served :=
  if s.fmn.configLock then refuse .configLocked s
  else if 15 < index ∨ !yesNo clear ∨ (clear = 0 ∧ !planValid f) then refuse .outOfRange s
  else
    writeOr s fun t =>
      answered (Answer.ok (fieldBytes [(1, index), (1, bit (decide (clear = 0))), (1, bit t.ttb.armed.isSome)]))
        (t.withTtb { t.ttb with staged := put t.ttb.staged index (if clear = 0 then some (planGiven f) else none), armed := none })

/-- LOAD PLAN (R48). -/
def execLoadPlan (lane tag index clear : Nat) (f : PlanFields) (s : State) : Host.Outcome State Fault Refusal :=
  serve (.loadPlan lane tag index clear f) s (loadPlanBody index clear f)

/-! ### ARM PLANS (R50) -/

/-- The OK payload of ARM PLANS: the armed month and the tariff generation (R50, R175). -/
def armPayload (s : State) : List Byte := presenceBytes s 0 2 s.ttb.armed ++ beBytes 2 s.ttb.generation

/-- The armed month written (R50). -/
def armWith (month : Option Nat) (s : State) : Served :=
  writeOr s fun t =>
    let u := t.withTtb { t.ttb with armed := month }
    answered (Answer.ok (armPayload u)) u

/-- ARM PLANS after the checks of R150 (R50). -/
def armPlansBody (disarm month : Nat) (s : State) : Served :=
  if s.fmn.configLock then refuse .configLocked s
  else if !yesNo disarm ∨ (disarm = 0 ∧ (Config.lastMonth < month ∨ month ≤ s.clk.month)) then refuse .outOfRange s
  else if disarm = 0 then armWith (some month) s
  else if s.ttb.armed.isNone then answered (Answer.ok (armPayload s)) s
  else armWith none s

/-- ARM PLANS (R50). -/
def execArmPlans (lane tag disarm month : Nat) (s : State) : Host.Outcome State Fault Refusal :=
  serve (.armPlans lane tag disarm month) s (armPlansBody disarm month)

/-- The banks swapped: the armed month cleared, the generation one higher (R51). -/
def Ttb.swapped (t : Ttb) : Ttb := ⟨t.staged, t.active, none, (t.generation + 1) % 65536⟩

end Sys2Proof.Machine
end

