-- ==== Sys2Proof/Machine/Float.lean ====
section
/-! DEFINITION. GRANT, STATEMENT, SET LIMITS and the deadline's expiry (chapter 06). -/

namespace Sys2Proof.Machine

/-! ### STATEMENT (R122 to R124) -/

/-- A 64-bit block of a record being authenticated. -/
def blockOf (v : Nat) : Block := BitVec.ofNat 64 v

/-- The six accumulators in the order of R121. -/
def Totals.list (t : Totals) : List Nat := [t.tokens, t.credit, t.free, t.tender, t.fixed, t.recovery]

/-- The seven blocks of a statement record (R123). -/
def statementBlocks (number minute : Nat) (t : Totals) : List Block :=
  blockOf (number * 2 ^ 48 + minute * 2 ^ 24) :: t.list.map blockOf

/-- STATEMENT's OK payload: the record's fields, then the authenticator (R124, R175). -/
def Statement.payload (r : Statement) : List Byte :=
  fieldBytes ([(2, r.number), (3, r.minute)] ++ r.totals.list.map (fun v => (5, v)) ++ [(8, r.auth.toNat)])

/-- The statement number after one (R124). -/
def nextNumber (n : Nat) : Nat := (n + 1) % 65536

/-- STATEMENT after the checks of R150; its repeat flag's value is judged first (R124, R175). -/
def statementBody (again : Nat) (s : State) : Served :=
  if !yesNo again then refuse .outOfRange s
  else if again = 1 then
    match s.flt.last with
    | some r => answered (Answer.ok r.payload) s
    | none => refuse .notFound s
  else
    let number := nextNumber s.flt.number
    (authenticator (statementBlocks number s.clk.minute s.flt.totals) s).served fun auth t =>
      let r : Statement := ⟨number, s.clk.minute, s.flt.totals, auth⟩
      writeOr t fun u =>
        answered (Answer.ok r.payload) (u.withFlt { u.flt with totals := Totals.zero, number := number, last := some r })

/-- STATEMENT (R124). -/
def execStatement (lane tag again : Nat) (s : State) : Host.Outcome State Fault Refusal :=
  serve (.statement lane tag again) s (statementBody again)

/-! ### GRANT (R125 to R127) -/

/-- The two blocks of a grant record (R125). -/
def grantBlocks (sequence amount hours number : Nat) : List Block :=
  [blockOf (sequence * 2 ^ 48 + number * 2 ^ 32 + hours * 2 ^ 16 + 0x6A17), blockOf amount]

/-- The deadline a grant sets: hours ahead of the clock, at the clock's end at the latest (R127). -/
def grantDeadline (minute hours : Nat) : Nat := min (minute + hours * 60) Config.lastMinute

/-- The float as a grant leaves it (R127). -/
def Flt.granted (f : Flt) (sequence amount deadline : Nat) : Flt :=
  { f with balance := min (f.balance + amount) f.ceiling, deadline := some deadline, noted := false, sequence := sequence }

/-- GRANT after the checks of R150 (R126, R127). -/
def grantBody (sequence amount hours number auth : Nat) (s : State) : Served :=
  if amount = 0 ∨ Config.maxFloat < amount ∨ hours = 0 ∨ 720 < hours then refuse .outOfRange s
  else
    (authenticator (grantBlocks sequence amount hours number) s).served fun made t =>
      if made ≠ blockOf auth then refuse .badAuthenticator t
      else if sequence ≠ nextNumber t.flt.sequence ∨ number ≠ t.flt.number then
        answered ⟨.outOfSequence, fieldBytes [(2, nextNumber t.flt.sequence), (2, t.flt.number)], none⟩ t
      else
        writeOr t fun u =>
          let d := grantDeadline u.clk.minute hours
          answered
            (Answer.ok (fieldBytes [(4, min (u.flt.balance + amount) u.flt.ceiling), (4, u.flt.balance + amount - u.flt.ceiling), (3, d),
              (2, sequence)]))
            (u.withFlt (u.flt.granted sequence amount d))

/-- GRANT (R126). -/
def execGrant (lane tag sequence amount hours number auth : Nat) (s : State) : Host.Outcome State Fault Refusal :=
  serve (.grant lane tag sequence amount hours number auth) s (grantBody sequence amount hours number auth)

/-! ### SET LIMITS (R129) -/

/-- The lease time taken for one given (R129). -/
def takenLease (lease : Nat) : Nat := max 30 (min lease 600)

/-- SET LIMITS after the checks of R150 (R129). -/
def setLimitsBody (ceiling cap lease : Nat) (s : State) : Served :=
  if s.fmn.configLock then refuse .configLocked s
  else if ceiling = 0 ∨ Config.maxFloat < ceiling ∨ Config.maxCents < cap then refuse .outOfRange s
  else if ceiling < s.flt.balance then refuse .outOfRange s
  else
    writeOr s fun t =>
      answered
        (Answer.ok (fieldBytes [(4, ceiling), (4, cap), (2, takenLease lease), (1, bit (decide (takenLease lease ≠ lease)))]))
        (t.withFlt { t.flt with ceiling := ceiling, cap := cap, lease := takenLease lease })

/-- SET LIMITS (R129). -/
def execSetLimits (lane tag ceiling cap lease : Nat) (s : State) : Host.Outcome State Fault Refusal :=
  serve (.setLimits lane tag ceiling cap lease) s (setLimitsBody ceiling cap lease)

/-! ### The deadline's expiry (R120) -/

/-- The clock minute stands at or above the deadline (R116, R134). -/
def State.deadlineReached (s : State) : Bool := s.flt.deadline.any fun d => decide (d ≤ s.clk.minute)

/-- The deadline's expiry arrives, once for a deadline: no item of the float changes, and the mode reads RESTRICTED (R116, R120). No event
while the deadline is absent or ahead. -/
def execDeadlineExpiry (s : State) : Host.Outcome State Fault Refusal :=
  powered s fun s => if s.deadlineReached then s.withFlt { s.flt with noted := true } else s

end Sys2Proof.Machine
end

