-- ==== Sys2Proof/Machine/Clock.lean ====
section
/-! DEFINITION. The clock's count, SET CLOCK, SET BOUNDARY, the month roll and its retry, and the clock's end (chapter 07). -/

namespace Sys2Proof.Machine

/-! ### The month roll (R138, R139) -/

/-- The clock minute stands at or past the boundary (R134). -/
def Clk.boundaryReached (c : Clk) : Bool := c.boundary.any fun b => decide (b ≤ c.minute)

/-- What the roll's one retained write makes: the month, the boundary and, when armed for the new month, the banks (R51, R138). -/
def rolledMonth (s : State) : State :=
  let month := min (s.clk.month + 1) Config.lastMonth
  let t := s.withClk { s.clk with month := month, boundary := none, rollWaiting := false }
  if s.clk.month < Config.lastMonth ∧ s.ttb.armed = some month then t.withTtb s.ttb.swapped else t

/-- The month rolled, or the roll left waiting to be taken again (R138, R139). Says whether it was made. -/
def rollMonth (s : State) : Bool × State :=
  retained s (fun t => (true, rolledMonth t)) fun t => (false, t.withClk { t.clk with rollWaiting := true })

/-- The month roll arrives at a part that is started up: the boundary is reached and no roll waits (R138, R164). -/
def execMonthRoll (s : State) : Host.Outcome State Fault Refusal :=
  powered s fun s => if s.startUp = .done ∧ s.clk.boundaryReached ∧ !s.clk.rollWaiting then (rollMonth s).2 else s

/-- Start-up's last step, which it does not reach while a zeroise's write is owed: the roll, when the boundary is reached (R164 step 6). -/
def startRoll (s : State) : State :=
  if s.fmn.zeroisePending then s.withStartUp .last
  else if s.clk.boundaryReached then
    match rollMonth s with
    | (true, t) => t.withStartUp .done
    | (false, t) => t.withStartUp .roll
  else s.withStartUp .done

/-- The roll that holds start-up up, taken again; once it is made start-up is done, or waits for a zeroise's write begun meanwhile. -/
def retryStartRoll (s : State) : State :=
  match rollMonth s with
  | (true, t) => startRoll t
  | (false, t) => t

/-- A waiting roll taken again while its boundary is still present and reached (R139); at start-up, the work it holds up goes on. -/
def execMonthRollRetry (s : State) : Host.Outcome State Fault Refusal :=
  powered s fun s =>
    if s.clk.rollWaiting && s.clk.boundaryReached then (if s.startUp = .roll then retryStartRoll s else (rollMonth s).2) else s

/-! ### SET CLOCK and SET BOUNDARY (R135, R137) -/

/-- The OK payload of SET CLOCK (R135, R175). -/
def setClockPayload (s : State) (rolled : Bool) : List Byte :=
  fieldBytes [(3, s.clk.minute), (1, s.clk.second), (2, s.clk.month)] ++ presenceBytes s 6 3 s.clk.boundary ++
    fieldBytes [(2, s.ttb.generation), (1, bit rolled)]

/-- A forward jump: the minute and second set, and a boundary at or below the new minute rolls the month (R135). Says whether it did. -/
def jumpClock (minute : Nat) (s : State) : Bool × State :=
  let t := s.withClk { s.clk with minute := minute, second := 0 }
  if t.clk.boundaryReached then rollMonth t else (false, t)

/-- SET CLOCK after the checks of R150 (R135). -/
def setClockBody (minute : Nat) (s : State) : Served :=
  if minute < s.clk.minute then refuse .clockBackward s
  else if minute = s.clk.minute then answered (Answer.ok (setClockPayload s false)) s
  else answered (Answer.ok (setClockPayload (jumpClock minute s).2 (jumpClock minute s).1)) (jumpClock minute s).2

/-- SET CLOCK (R135). -/
def execSetClock (lane tag minute : Nat) (s : State) : Host.Outcome State Fault Refusal :=
  serve (.setClock lane tag minute) s (setClockBody minute)

/-- The OK payload of SET BOUNDARY (R137, R175). -/
def setBoundaryPayload (s : State) : List Byte :=
  presenceBytes s 0 3 s.clk.boundary ++ fieldBytes [(3, s.clk.minute), (2, s.clk.month)]

/-- The boundary written; a roll that waited at the old one waits no more (R137, R139, R140). -/
def boundaryWith (boundary : Option Nat) (s : State) : Served :=
  writeOr s fun t =>
    let u := t.withClk { t.clk with boundary := boundary, rollWaiting := false }
    answered (Answer.ok (setBoundaryPayload u)) u

/-- SET BOUNDARY after the checks of R150 (R137). -/
def setBoundaryBody (clear minute : Nat) (s : State) : Served :=
  if !yesNo clear ∨ (clear = 0 ∧ minute ≤ s.clk.minute) then refuse .outOfRange s
  else if clear = 0 then boundaryWith (some minute) s
  else if s.clk.boundary.isNone then answered (Answer.ok (setBoundaryPayload s)) s
  else boundaryWith none s

/-- SET BOUNDARY (R137). -/
def execSetBoundary (lane tag clear minute : Nat) (s : State) : Host.Outcome State Fault Refusal :=
  serve (.setBoundary lane tag clear minute) s (setBoundaryBody clear minute)

/-! ### The clock's own count (R132, R133) -/

/-- The clock one second on; it stands still once it has reached minute 16,777,215, second 59 (R132, R133). -/
def Clk.tick (c : Clk) : Clk :=
  if c.second < 59 then { c with second := c.second + 1 }
  else if c.minute < Config.lastMinute then { c with second := 0, minute := c.minute + 1 }
  else c

/-- A second of the clock, counted from the battery whether supply is on or off (R131, R132). -/
def execClockSecond (s : State) : Host.Outcome State Fault Refusal := .next (s.withClk s.clk.tick)

/-- The clock reaches its end from the second before it and stops there (R133). No event anywhere else. -/
def execClockEnd (s : State) : Host.Outcome State Fault Refusal :=
  .next (if s.clk.minute = Config.lastMinute ∧ s.clk.second = 58 then s.withClk { s.clk with second := 59 } else s)

end Sys2Proof.Machine
end

