-- ==== Sys2Proof/Machine/Records.lean ====
section
/-! DEFINITION. QUERY, LIST, ENROL, RETIRE, RESTORE, AMEND, SUSPEND and RESUME (chapter 01). -/

namespace Sys2Proof.Machine

/-! ### QUERY and LIST (R24, R25) -/

/-- The key change item of QUERY (R24, R38, R175). -/
def Resolution.code : Resolution → Nat
  | .same _ => 0
  | .due _ _ => 1
  | .stranded => 2

/-- The quote lane and quote state bytes: 0 and 0 when no quote is open on the meter (R175). A quote in ISSUING, which QUERY and STATUS do
not meet, has no code. -/
def quoteStateByte (s : State) (off : Nat) : Option Quote → List Byte
  | none => [0]
  | some q =>
    match q.state with
    | .opened => [1]
    | .held => [2]
    | .issuing => openBytes s off 1

/-- Free due: eligible, not taken, and a plan in the active bank with a free allocation (R24, R53). -/
def State.freeIsDue (s : State) (r : Record) : Bool :=
  (s.planAt r.plan).any fun p => decide (0 < freeDue r p)

/-- The OK payload of QUERY, from the record as rolled (R24, R175). -/
def queryPayload (s : State) (meter : Nat) (r : Record) : List Byte :=
  let lane := s.quoteLane meter
  let change := r.issue.bind (·.change)
  fieldBytes [(5, meter), (1, r.state.code), (1, queryFlags r (s.freeIsDue r)), (1, r.plan), (1, r.zone), (1, r.revision),
      (1, ((s.zoneAt r.zone).resolve r.revision).code), (2, r.units), (4, r.arrears), (1, r.rate), (3, r.carry)] ++
    maybeBytes s 21 3 r.lastTid ++ maybeBytes s 24 3 (r.issue.map (·.firstTid)) ++ maybeBytes s 27 1 (r.issue.map (·.count)) ++
    maybeBytes s 28 2 (r.issue.map (·.credit)) ++ maybeBytes s 30 2 (r.issue.map (·.free)) ++
    fieldBytes [(1, orFF (change.map (·.fromRev))), (1, orFF (change.map (·.toRev))), (1, lane.getD 0)] ++
    quoteStateByte s 35 (lane.bind s.quoteAt)

/-- QUERY after the checks of R150 (R7, R24). -/
def queryBody (meter : Nat) (s : State) : Served :=
  match findRecord meter s with
  | .missing => refuse .notFound s
  | .bad e t => answered ⟨.quarantined, fieldBytes [(5, meter), (1, (s.record e.slot).state.code), (1, 1)], none⟩ t
  | .good _ r => answered (Answer.ok (queryPayload s meter (r.rolled s.clk.month))) s

/-- QUERY (R24). -/
def execQuery (lane tag meter : Nat) (s : State) : Host.Outcome State Fault Refusal :=
  serve (.query lane tag meter) s (queryBody meter)

/-- LIST after the checks of R150 (R25). -/
def listBody (start : Nat) (s : State) : Served :=
  let found := s.dir.listing.filter fun e => decide (start ≤ e.meter)
  let shown := found.take 8
  answered
    (Answer.ok (fieldBytes [(1, shown.length), (1, bit (decide (8 < found.length)))] ++
      shown.flatMap fun e => fieldBytes [(5, e.meter), (1, (s.record e.slot).state.code), (1, bit e.quarantined)])) s

/-- LIST (R25). -/
def execList (lane tag start : Nat) (s : State) : Host.Outcome State Fault Refusal :=
  serve (.list lane tag start) s (listBody start)

/-! ### ENROL (R16, R17) -/

/-- The insertion position of a meter: the entries with smaller numbers (R11). -/
def Dir.position (d : Dir) (meter : Nat) : Nat := (d.view.filter fun e => decide (e.meter < meter)).length

/-- The record ENROL writes (R17). -/
def newRecord (meter zone plan revision : Nat) (eligible : Bool) (month arrears rate : Nat) : Record :=
  ⟨meter, .active, zone, plan, revision, eligible, month, 0, false, false, arrears, rate, 0, none, none, 0⟩

/-- ENROL's version written and its ENROLLING change started, each a retained write (R3, R11, R17). -/
def enrolStart (meter zone : Nat) (r : Record) (s : State) : Served :=
  writeVersion r s fun slot t =>
    retained t
      (fun u =>
        answered (Answer.ok (fieldBytes [(5, meter), (1, zone)]))
          (u.withDir { u.dir with change := some (.enrolling meter slot false (u.dir.position meter) u.dir.entries.length) }))
      fun u => refuse .storeFault (freeSlot slot u)

/-- ENROL after the checks of R150 (R16). -/
def enrolBody (meter plan revision eligible arrears rate : Nat) (s : State) : Served :=
  if meter = 0 ∨ Config.maxMeter < meter ∨ 15 < plan ∨ 15 < revision ∨ Config.maxCents < arrears ∨ 50 < rate ∨ !yesNo eligible then
    refuse .outOfRange s
  else if (s.dir.lookup meter).isSome then refuse .duplicate s
  else if Config.maxEntries ≤ s.dir.count then refuse .directoryFull s
  else
    match s.zoneSearch meter with
    | .none => refuse .noZone s
    | .embargo => refuse .zoneEmbargo s
    | .zone z =>
      if (s.planAt plan).isNone then refuse .noPlan s
      else enrolStart meter z (newRecord meter z plan revision (decide (eligible = 1)) s.clk.month arrears rate) s

/-- ENROL (R16). -/
def execEnrol (lane tag meter plan revision eligible arrears rate : Nat) (s : State) : Host.Outcome State Fault Refusal :=
  serve (.enrol lane tag meter plan revision eligible arrears rate) s (enrolBody meter plan revision eligible arrears rate)

/-! ### RETIRE (R18) -/

/-- The position of a meter's entry. -/
def Dir.index (d : Dir) (meter : Nat) : Nat := d.entries.findIdx fun e => e.meter == meter

/-- The OK payload of RETIRE: the arrears written off, or the mark that the amount is unknown (R18, R175). -/
def retirePayload (s : State) (writtenOff : Option Nat) : List Byte :=
  match writtenOff with
  | some v => fieldBytes [(4, v), (1, 0)]
  | none => openBytes s 0 4 ++ [1]

/-- The RETIRING change started in one retained write (R12, R18). -/
def retireStart (e : Entry) (writtenOff : Option Nat) (s : State) : Served :=
  retained s
    (fun t =>
      answered (Answer.ok (retirePayload t writtenOff))
        (t.withDir { t.dir with change := some (.retiring e.meter e.slot (t.dir.index e.meter)) }))
    (refuse .storeFault)

/-- RETIRE after the checks of R150 (R18, R175). -/
def retireBody (meter writeOff : Nat) (s : State) : Served :=
  if !yesNo writeOff then refuse .outOfRange s
  else
    match s.dir.lookup meter with
    | none => refuse .notFound s
    | some e =>
      if (s.quoteLane meter).isSome then refuse .meterBusy s
      else if e.quarantined then (if writeOff = 1 then retireStart e none s else refuse .quarantined s)
      else if !(s.record e.slot).intact then
        (if writeOff = 1 then retireStart e none (quarantine meter s) else refuse .quarantined (quarantine meter s))
      else if 0 < (s.record e.slot).arrears ∧ writeOff ≠ 1 then refuse .debtOpen s
      else retireStart e (some (s.record e.slot).arrears) s

/-- RETIRE (R18). -/
def execRetire (lane tag meter writeOff : Nat) (s : State) : Host.Outcome State Fault Refusal :=
  serve (.retire lane tag meter writeOff) s (retireBody meter writeOff)

/-! ### RESTORE (R19, R20) -/

/-- The last TID RESTORE writes (R20). -/
def restoredTid (minute : Nat) : Nat := min (minute + Config.runAhead) Config.lastMinute

/-- The last issue a RESTORE gives, its key change only if marked present (R19, R175). -/
def restoreIssue (f : RestoreFields) : Option LastIssue :=
  if flag f.flags 3 then some ⟨f.firstTid, f.count, f.credit, f.free, if flag f.flags 4 then some ⟨f.fromRev, f.toRev⟩ else none⟩
  else none

/-- A last issue in its ranges, its token count as R2 requires, its identifiers at or below a last TID (R2, R19). -/
def LastIssue.valid (i : LastIssue) (last : Nat) : Bool :=
  decide (i.firstTid ≤ Config.lastMinute) && decide (1 ≤ i.count) && decide (i.count ≤ 6) && decide (i.credit ≤ Config.maxUnits) &&
  decide (i.free ≤ Config.maxFree) && i.change.all (fun c => decide (c.fromRev ≤ 15) && decide (c.toRev ≤ 15)) &&
  decide (i.count = (if i.change.isSome then 4 else 0) + (if 0 < i.credit then 1 else 0) + (if 0 < i.free then 1 else 0)) &&
  decide (i.firstTid + i.count - 1 ≤ last)

/-- Every field RESTORE gives within its range (R1, R2, R19). The meter number's range is R1's too: DEDUCED, notes/assumptions/15. -/
def restoreValid (f : RestoreFields) (meter month last : Nat) : Bool :=
  decide (1 ≤ meter) && decide (meter ≤ Config.maxMeter) && (RecordState.ofCode f.state).isSome && decide (f.zone ≤ 15) &&
  decide (f.plan ≤ 15) && decide (f.revision ≤ 15) && decide (f.stamp ≤ Config.lastMonth) && decide (f.stamp ≤ month) &&
  decide (f.units ≤ Config.maxUnits) && decide (f.arrears ≤ Config.maxCents) && decide (f.rate ≤ 50) &&
  decide (f.carry ≤ Config.maxCarry) && (restoreIssue f).all (·.valid last)

/-- The version RESTORE writes (R20). -/
def restoreVersion (f : RestoreFields) (meter last : Nat) : Record :=
  ⟨meter, (RecordState.ofCode f.state).getD .active, f.zone, f.plan, f.revision, flag f.flags 0, f.stamp, f.units, flag f.flags 1,
   flag f.flags 2, f.arrears, f.rate, f.carry, some last, restoreIssue f, 0⟩

/-- RESTORE after the checks of R150 (R19, R20). -/
def restoreBody (meter : Nat) (f : RestoreFields) (s : State) : Served :=
  let last := restoredTid s.clk.minute
  if !restoreValid f meter s.clk.month last then refuse .outOfRange s
  else
    match s.dir.lookup meter with
    | none => refuse .notFound s
    | some e =>
      if (s.quoteLane meter).isSome then refuse .meterBusy s
      else replaceRecord e (restoreVersion f meter last) (some false) s fun t => answered (Answer.ok (beBytes 3 last)) t

/-- RESTORE (R19). -/
def execRestore (lane tag meter : Nat) (f : RestoreFields) (s : State) : Host.Outcome State Fault Refusal :=
  serve (.restore lane tag meter f) s (restoreBody meter f)

/-! ### AMEND (R21) -/

/-- The arrears after a signed amount, clamped (R21). -/
def amendedArrears (old : Nat) (change : Int) : Nat := (max 0 (min ((old : Int) + change) Config.maxCents)).toNat

/-- Whether a signed amount is clamped (R21). -/
def arrearsClamped (old : Nat) (change : Int) : Bool := decide ((old : Int) + change < 0 ∨ (Config.maxCents : Int) < (old : Int) + change)

/-- The AMEND fields named are in range; those not named are ignored (R21, R175). -/
def amendValid (f : AmendFields) : Bool :=
  !((flag f.present 0 && decide (15 < f.plan)) || (flag f.present 2 && decide (50 < f.rate)) || (flag f.present 3 && !yesNo f.eligible) ||
    (flag f.present 4 && decide (15 < f.revision)))

/-- The signed amount an AMEND adds to arrears; 0 when it names none (R21). -/
def amendChange (f : AmendFields) : Int := if flag f.present 1 then signed32 f.arrears else 0

/-- A record with the changes of an AMEND (R21). -/
def amendApply (f : AmendFields) (r : Record) : Record :=
  { r with
    plan := if flag f.present 0 then f.plan else r.plan
    arrears := if flag f.present 1 then amendedArrears r.arrears (amendChange f) else r.arrears
    rate := if flag f.present 2 then f.rate else r.rate
    eligible := if flag f.present 3 then decide (f.eligible = 1) else r.eligible
    revision := if flag f.present 4 then f.revision else r.revision }

/-- AMEND after the checks of R150 (R21). -/
def amendBody (meter : Nat) (f : AmendFields) (s : State) : Served :=
  match findRecord meter s with
  | .missing => refuse .notFound s
  | .bad _ t => refuse .quarantined t
  | .good e r =>
    if (s.quoteLane meter).isSome then refuse .meterBusy s
    else if !amendValid f then refuse .outOfRange s
    else if flag f.present 0 ∧ (s.planAt f.plan).isNone then refuse .noPlan s
    else
      let v := amendApply f (r.rolled s.clk.month)
      replaceRecord e v none s fun t =>
        answered (Answer.ok (fieldBytes [(4, v.arrears), (1, bit (flag f.present 1 && arrearsClamped r.arrears (amendChange f)))])) t

/-- AMEND (R21). -/
def execAmend (lane tag meter : Nat) (f : AmendFields) (s : State) : Host.Outcome State Fault Refusal :=
  serve (.amend lane tag meter f) s (amendBody meter f)

/-! ### SUSPEND and RESUME (R22, R23) -/

/-- The meter's OPEN or HELD quote voided with note VOIDED, and its lane, 0 for none (R22, R86). -/
def suspendQuote (meter : Nat) (s : State) : Nat × State :=
  match s.quoteLane meter with
  | some k =>
    if (s.quoteAt k).any fun q => decide (q.state ≠ .issuing) then (k, voidWaiting .voided k s) else (0, s)
  | none => (0, s)

/-- SUSPEND after the checks of R150 (R22). -/
def suspendBody (meter : Nat) (s : State) : Served :=
  match findRecord meter s with
  | .missing => refuse .notFound s
  | .bad _ t => refuse .quarantined t
  | .good e r =>
    if r.state = .suspended then answered (Answer.ok [0]) s
    else
      replaceRecord e { r.rolled s.clk.month with state := .suspended } none s fun t =>
        answered (Answer.ok (beBytes 1 (suspendQuote meter t).1)) (suspendQuote meter t).2

/-- SUSPEND (R22). -/
def execSuspend (lane tag meter : Nat) (s : State) : Host.Outcome State Fault Refusal :=
  serve (.suspend lane tag meter) s (suspendBody meter)

/-- RESUME after the checks of R150 (R23). -/
def resumeBody (meter : Nat) (s : State) : Served :=
  match findRecord meter s with
  | .missing => refuse .notFound s
  | .bad _ t => refuse .quarantined t
  | .good e r =>
    if r.state = .active then answered (Answer.ok []) s
    else
      replaceRecord e { r.rolled s.clk.month with state := .active } none s fun t => answered (Answer.ok []) t

/-- RESUME (R23). -/
def execResume (lane tag meter : Nat) (s : State) : Host.Outcome State Fault Refusal :=
  serve (.resume lane tag meter) s (resumeBody meter)

end Sys2Proof.Machine
end

