-- ==== Sys2Proof/Machine/Directory.lean ====
section
/-! DEFINITION. The directory's steps (R11, R12), and the start-up work from them on (R164 steps 3 to 6). -/

namespace Sys2Proof.Machine

/-- A step of a pending change (R11, R12). -/
inductive DirStep | enrolMove | placing | retireMove | closing
deriving DecidableEq, Repr

/-- The step a pending change takes next (R11, R12). -/
def Dir.nextStep (d : Dir) : Option DirStep :=
  d.change.map fun c =>
    match c with
    | .enrolling _ _ _ p c => if p < c then .enrolMove else .placing
    | .retiring _ _ c => if c + 1 < d.entries.length then .retireMove else .closing

/-- The directory after its next step's write (R11, R12). -/
def Dir.stepped (d : Dir) : Dir :=
  match d.change with
  | some (.enrolling m slot q p c) =>
    if p < c then ⟨setCell d.entries c (d.entries[c - 1]?.getD default), some (.enrolling m slot q p (c - 1))⟩
    else ⟨setCell d.entries p ⟨m, slot, q⟩, none⟩
  | some (.retiring m slot c) =>
    if c + 1 < d.entries.length then ⟨d.entries.set c (d.entries[c + 1]?.getD default), some (.retiring m slot (c + 1))⟩
    else ⟨d.entries.take (d.entries.length - 1), none⟩
  | none => d

/-- The slot a directory's next step frees: the retired one at the closing step (R12). -/
def Dir.released (d : Dir) : Option Nat :=
  match d.change with
  | some (.retiring _ slot c) => if c + 1 < d.entries.length then none else some slot
  | _ => none

/-- The next step's write made: the directory, and the slot the closing step frees (R11, R12). -/
def stepMade (s : State) : State :=
  let t := s.withDir s.dir.stepped
  match s.dir.released with
  | some slot => freeSlot slot t
  | none => t

/-- The next step tried: made, or a STORE_WRITE fault and the change as it was (R12). Says whether it was made. -/
def tryStep (s : State) : Bool × State := retained s (fun t => (true, stepMade t)) fun t => (false, t)

/-! ### Start-up from the directory on (R164 steps 3 to 6) -/

/-- The remaining steps of a pending change, until it completes or a write fails (R15). `fuel` bounds them. -/
def completeChange : Nat → State → Bool × State
  | 0, s => (s.dir.change.isNone, s)
  | fuel + 1, s =>
    if s.dir.change.isNone then (true, s)
    else
      match tryStep s with
      | (true, t) => completeChange fuel t
      | (false, t) => (false, t)

/-- Whether a directory entry names a slot (R9). -/
def Dir.names (d : Dir) (slot : Nat) : Bool := d.entries.any fun e => e.slot == slot

/-- The free pool rebuilt: every slot no directory entry names (R9). -/
def rebuildFree (s : State) : State :=
  s.withAst { s.ast with free := (List.range Config.slotCount).filter fun n => !s.dir.names n }

/-- Start-up from step 4 on: the free pool, the self-test, the roll (R164). -/
def startRebuild (s : State) : State := startRoll (selfTest (rebuildFree s)).2

/-- Start-up from step 3 on (R15, R164). A change takes at most one step more than the list has entries. -/
def startDirectory (s : State) : State :=
  match completeChange (s.dir.entries.length + 1) s with
  | (true, t) => startRebuild t
  | (false, t) => t.withStartUp .directory

/-! ### The step commands -/

/-- A step of the kind named is the directory's next, and start-up has come to it (R11, R164). -/
def State.stepDue (s : State) (k : DirStep) : Bool :=
  decide (s.dir.nextStep = some k) && (decide (s.startUp = .done) || decide (s.startUp = .directory) || decide (s.startUp = .roll) ||
    decide (s.startUp = .last))

/-- A directory step: taken when it is the next one; a start-up held up at it goes on once it is made (R11, R12, R164). -/
def takeStep (k : DirStep) (s : State) : State :=
  if s.stepDue k then
    match tryStep s with
    | (true, t) => if s.startUp = .directory then startDirectory t else t
    | (false, t) => t
  else s

/-- A moving step of an ENROLLING change (R11). -/
def execEnrolMoveStep (s : State) : Host.Outcome State Fault Refusal := powered s (takeStep .enrolMove)

/-- The placing step of an ENROLLING change (R11). -/
def execPlacingStep (s : State) : Host.Outcome State Fault Refusal := powered s (takeStep .placing)

/-- A moving step of a RETIRING change (R12). -/
def execRetireMoveStep (s : State) : Host.Outcome State Fault Refusal := powered s (takeStep .retireMove)

/-- The closing step of a RETIRING change (R12). -/
def execClosingStep (s : State) : Host.Outcome State Fault Refusal := powered s (takeStep .closing)

end Sys2Proof.Machine
end

