-- ==== Sys2Proof/Machine/Link.lean ====
section
/-! DEFINITION. The office link: received characters, frame assembly and judging, the link's own answers, the transmitter, the link break
and SET LINK (chapter 10); and UNKNOWN_REQUEST_KIND (R150). -/

namespace Sys2Proof.Machine

/-! ### Characters (R165, R166) -/

/-- Whether a parity bit makes the count of ones as the parity asks (R165). -/
def Parity.agrees (p : Parity) (data : Byte) (bit : Bool) : Bool :=
  match p with
  | .none => true
  | .even => (onesOf data + (if bit then 1 else 0)) % 2 == 0
  | .odd => (onesOf data + (if bit then 1 else 0)) % 2 == 1

/-- The error mark of a character received at some settings: its parity wrong, or its stop bit low (R166). -/
def charError (l : LinkSettings) (c : LineChar) : Bool := !l.parity.agrees c.data c.parityBit || !c.stopBit

/-- The settings the next character to end is received at: those of its start bit if it stands in the shift register, else the present
ones (R174). -/
def Olk.rxSettings (o : Olk) : LinkSettings := o.shift.getD o.settings

/-! ### The link's own answers (R168, R170) -/

/-- The assembler put in a state. -/
def setAsm (a : Assembler) (s : State) : State := s.withOlk { s.olk with asm := a }

/-- An answer of the link without payload (R170). -/
def linkReply (lane tag kind : Nat) (st : Status) : Reply := ⟨lane, tag, kind, st, [], none⟩

/-- The link gives an answer: it takes a free place of the reply queue and the assembler hunts, or the assembler waits with it (R170). -/
def giveAnswer (r : Reply) (s : State) : State :=
  if s.placeFree then pushReply r (setAsm .hunt s) else setAsm (.waiting r) s

/-- The lane of a frame's lane and tag byte (R167). -/
def laneOf (b : Byte) : Nat := b.toNat / 16

/-- The tag of a frame's lane and tag byte (R167). -/
def tagOf (b : Byte) : Nat := b.toNat % 16

/-- A kind in the catalogue whose payload has another length than the catalogue gives (R168 check 3). -/
def wrongLength (kind : Nat) (payload : List Byte) : Bool :=
  (Kind.ofCode kind).any fun k => decide (payload.length ≠ k.payloadLength)

/-- The status a complete frame of lane 0 to 8 is answered by the link, if it is (R168 checks 2 to 5). -/
def frameStatus (lane kind : Nat) (payload : List Byte) (damaged : Bool) (s : State) : Option Status :=
  if damaged then some .malformed
  else if wrongLength kind payload then some .malformed
  else if lane ≠ 0 ∧ s.levelAt lane = 0 then some .laneClosed
  else if Config.queuePlaces ≤ (s.queueAt lane).length then some .laneFull
  else none

/-- A complete frame judged: discarded, answered, or its request at the tail of its lane's queue (R168). -/
def judge (first : Byte) (kind : Nat) (payload : List Byte) (damaged : Bool) (s : State) : State :=
  if 9 ≤ laneOf first then setAsm .hunt s
  else
    match frameStatus (laneOf first) kind payload damaged s with
    | some st => giveAnswer (linkReply (laneOf first) (tagOf first) kind st) s
    | none => setQueue (laneOf first) (s.queueAt (laneOf first) ++ [⟨tagOf first, kind, payload⟩]) (setAsm .hunt s)

/-- A complete frame with its body, its CRC bytes and its bad mark (R167, R168). -/
def frameComplete (body : List Byte) (high low : Byte) (bad : Bool) (s : State) : State :=
  match body with
  | first :: kind :: payload => judge first kind.toNat payload (bad || decide (crc16 body ≠ high ++ low)) s
  | _ => setAsm .hunt s

/-! ### The assembler (R167) -/

/-- The assembler takes a byte with its marks (R166, R167). -/
def takeByte (h : Held) (s : State) : State :=
  let marked := h.error || h.overrun
  match s.olk.asm with
  | .hunt => if h.data = 0xA5 ∧ !marked then setAsm .length s else s
  | .length =>
    if 2 ≤ h.data.toNat ∧ h.data.toNat ≤ 126 ∧ !marked then setAsm (.body h.data.toNat [] false) s else setAsm .hunt s
  | .body n taken bad =>
    if n ≤ taken.length + 1 then setAsm (.check (taken ++ [h.data]) none (bad || marked)) s
    else setAsm (.body n (taken ++ [h.data]) (bad || marked)) s
  | .check taken none bad => setAsm (.check taken (some h.data) (bad || marked)) s
  | .check taken (some high) bad => frameComplete taken high h.data (bad || marked) s
  | .waiting _ => s

/-- The assembler waits for a place in the reply queue (R170). -/
def Assembler.isWaiting : Assembler → Bool
  | .waiting _ => true
  | _ => false

/-- The assembler takes the holding byte, except while it waits (R166, R170). -/
def takeHolding (s : State) : State :=
  match s.olk.hold with
  | none => s
  | some h => if s.olk.asm.isWaiting then s else takeByte h (s.withOlk { s.olk with hold := none })

/-- A character ends and leaves the shift register: it moves to the holding byte with its error mark, or is lost and marks the byte already
there as overrun (R166). -/
def arriveChar (s : State) (c : LineChar) : State :=
  match s.olk.hold with
  | some h => s.withOlk { s.olk with shift := none, hold := some { h with overrun := true } }
  | none => takeHolding (s.withOlk { s.olk with shift := none, hold := some ⟨c.data, charError s.olk.rxSettings c, false⟩ })

/-- The receiver accepts characters: supply is on and no break holds the wire low (R84, R171). -/
def State.receiving (s : State) : Bool := s.supply && !s.olk.breakHeld

/-- A character ends on the receive wire (R166). -/
def execCharacterReceived (c : LineChar) (s : State) : Host.Outcome State Fault Refusal :=
  .next (if s.receiving then arriveChar s c else s)

/-- The characters of a frame end on the receive wire, one after another (R166 to R168). -/
def execFrameReceived (chars : List LineChar) (s : State) : Host.Outcome State Fault Refusal :=
  .next (if s.receiving then chars.foldl arriveChar s else s)

/-- A frame abandoned with the bytes of its body it has taken: answered MALFORMED once its lane byte is in, else discarded (R169). -/
def abandon (taken : List Byte) (s : State) : State :=
  match taken with
  | [] => setAsm .hunt s
  | first :: rest =>
    if 9 ≤ laneOf first then setAsm .hunt s
    else giveAnswer (linkReply (laneOf first) (tagOf first) ((rest.head?.map (·.toNat)).getD 0) .malformed) s

/-- The inter-byte timeout runs out in LENGTH, BODY or CHECK; it does not run elsewhere (R169). -/
def execInterByteTimeout (s : State) : Host.Outcome State Fault Refusal :=
  powered s fun s =>
    match s.olk.asm with
    | .hunt => s
    | .length => abandon [] s
    | .body _ taken _ => abandon taken s
    | .check taken _ _ => abandon taken s
    | .waiting _ => s

/-- A waiting answer takes a free place; the assembler hunts and takes the holding byte (R170). No event otherwise. -/
def execLinkAnswerPlaced (s : State) : Host.Outcome State Fault Refusal :=
  powered s fun s =>
    match s.olk.asm with
    | .waiting r => if s.placeFree then takeHolding (pushReply r (setAsm .hunt s)) else s
    | _ => s

/-! ### Sending (R173, R174) -/

/-- The link settings change. A character whose start bit has fallen by then stands in the shift register from now on at the latest, and
keeps the settings of its start bit until it ends, however often they change (R174, notes/assumptions/23). -/
def applySettings (v : LinkSettings) (s : State) : State :=
  let begun := s.env.starts.headD false && s.receiving
  (s.withEnv { s.env with starts := s.env.starts.tail }).withOlk
    { s.olk with settings := v, shift := if begun then some s.olk.rxSettings else s.olk.shift }

/-- The stop bits of the first reply's last character are sent: its place frees, the settings it carries apply, the next reply starts
(R173, R174). -/
def replySent (s : State) : State :=
  match s.olk.replies with
  | [] => s
  | r :: rest =>
    let t := match r.settings with
      | some v => applySettings v s
      | none => s
    t.withOlk (fillTx { t.olk with replies := rest, tx := ⟨none, none, 0⟩ })

/-- The last stop bit of the first reply is sent (R173). No event with an empty reply queue. -/
def execReplySent (s : State) : Host.Outcome State Fault Refusal := powered s replySent

/-- Whether the shift register holds the last byte of the first reply. -/
def Olk.atLastByte (o : Olk) : Bool :=
  match o.replies with
  | [] => false
  | r :: _ => o.tx.hold.isNone && decide (r.frame.length ≤ o.tx.taken)

/-- The transmitter sends the character in its shift register to its end and goes on (R173); notes/assumptions/2 says when it does. -/
def txAdvance (s : State) : State :=
  if s.supply && s.olk.tx.shift.isSome then
    (if s.olk.atLastByte then replySent s else s.withOlk (fillTx { s.olk with tx := { s.olk.tx with shift := none } }))
  else s

/-! ### The break (R171, R172) -/

/-- The receive wire has been low for three character times (R171). -/
def execLinkBreak (s : State) : Host.Outcome State Fault Refusal := powered s takeBreak

/-- The receive wire has returned high (R171). -/
def execReceiveWireReturnsHigh (s : State) : Host.Outcome State Fault Refusal :=
  powered s fun s => s.withOlk { s.olk with breakHeld := false }

/-! ### SET LINK (R174) and a kind outside the catalogue (R150) -/

/-- SET LINK after the checks of R150 (R174). -/
def setLinkBody (divisor parity stopBits : Nat) (s : State) : Served :=
  match Parity.ofCode parity with
  | none => refuse .outOfRange s
  | some p =>
    if stopBits = 1 ∨ stopBits = 2 then
      answered ⟨.ok, fieldBytes [(1, divisor), (1, parity), (1, stopBits)], some ⟨divisor, p, stopBits⟩⟩ s
    else refuse .outOfRange s

/-- SET LINK (R174). -/
def execSetLink (lane tag divisor parity stopBits : Nat) (s : State) : Host.Outcome State Fault Refusal :=
  serve (.setLink lane tag divisor parity stopBits) s (setLinkBody divisor parity stopBits)

/-- A request whose kind byte names no request kind (R150). -/
def execUnknownRequestKind (lane tag kind : Nat) (payload : List Byte) (s : State) : Host.Outcome State Fault Refusal :=
  serve (.unknownRequestKind lane tag kind payload) s (refuse .notPermitted)

end Sys2Proof.Machine
end

