-- ==== Sys2Proof/Machine/Monitor.lean ====
section
/-! DEFINITION. SET HOLD, ACK FAULT, LANE LEVEL, LOCK, UNLOCK, ZEROISE, STATUS, the tamper input, the zeroise's retry, power-on reset and
the loss of supply (chapters 08 and 09). -/

namespace Sys2Proof.Machine

/-! ### SET HOLD and ACK FAULT (R156, R157) -/

/-- SET HOLD after the checks of R150 (R156). -/
def setHoldBody (level : Nat) (s : State) : Served :=
  let new := min level Config.maxHold
  answered (Answer.ok (fieldBytes [(1, s.fmn.hold), (1, new), (1, bit (decide (Config.maxHold < level)))]))
    (s.withFmn { s.fmn with hold := new })

/-- SET HOLD (R156). -/
def execSetHold (lane tag level : Nat) (s : State) : Host.Outcome State Fault Refusal :=
  serve (.setHold lane tag level) s (setHoldBody level)

/-- The top entry popped and its saved level restored (R157). -/
def popHold (e : HoldEntry) (rest : List HoldEntry) (s : State) : State := s.withFmn { s.fmn with hold := e.saved, stack := rest }

/-- The retest of a FAILED cipher: 0 not run, 1 passed, 2 failed (R157, R175). R157's words judge a CIPHER_TEST on the stack 'as step 1 left
them'; its worked example lets another block's fault come between the pop and the retest, and judges the CIPHER_TEST on the stack as that
fault left it. The model follows the example: DEDUCED, notes/assumptions/33. -/
def retest (s : State) : Nat × State :=
  if s.tcu.passed then (0, s)
  else
    match selfTest (midEvent s) with
    | (true, t) => (1, t)
    | (false, t) => (2, t)

/-- ACK FAULT after the checks of R150 (R157). -/
def ackFaultBody (s : State) : Served :=
  match s.fmn.stack with
  | [] => refuse .notHeld s
  | e :: rest =>
    let r := retest (popHold e rest s)
    answered
      (Answer.ok (fieldBytes [(1, e.kind.code), (1, e.level), (1, r.2.fmn.hold), (1, r.2.fmn.stack.length), (1, r.1),
        (1, bit r.2.fmn.locked)])) r.2

/-- ACK FAULT (R157). -/
def execAckFault (lane tag : Nat) (s : State) : Host.Outcome State Fault Refusal := serve (.ackFault lane tag) s ackFaultBody

/-! ### LANE LEVEL (R144) -/

/-- LANE LEVEL after the checks of R150 (R144). -/
def laneLevelBody (counter level : Nat) (s : State) : Served :=
  if s.fmn.configLock then refuse .configLocked s
  else if counter = 0 ∨ 8 < counter ∨ 6 < level then refuse .outOfRange s
  else
    writeOr s fun t =>
      answered (Answer.ok (fieldBytes [(1, counter), (1, t.levelAt counter), (1, level)]))
        (t.withLqa { t.lqa with levels := put t.lqa.levels (counter - 1) level })

/-- LANE LEVEL (R144). -/
def execLaneLevel (lane tag counter level : Nat) (s : State) : Host.Outcome State Fault Refusal :=
  serve (.laneLevel lane tag counter level) s (laneLevelBody counter level)

/-! ### The configuration lock (R159, R160) -/

/-- LOCK after the checks of R150 (R159); a zeroise still pending refuses its write with STORE_FAULT (R161). -/
def lockBody (key : Nat) (s : State) : Served :=
  if s.fmn.configLock then refuse .configLocked s
  else if s.fmn.zeroisePending then refuse .storeFault s
  else
    writeOr s fun t =>
      answered (Answer.ok [BitVec.ofNat 8 (bit (decide (BitVec.ofNat 64 key = 0)))])
        (t.withFmn { t.fmn with configLock := true, lockKey := BitVec.ofNat 64 key })

/-- LOCK (R159). -/
def execLock (lane tag key : Nat) (s : State) : Host.Outcome State Fault Refusal := serve (.lock lane tag key) s (lockBody key)

/-- UNLOCK after the checks of R150 (R160). -/
def unlockBody (key : Nat) (s : State) : Served :=
  if !s.fmn.configLock then answered (Answer.ok [0]) s
  else if s.fmn.lockKey = 0 then refuse .configLocked s
  else if BitVec.ofNat 64 key ≠ s.fmn.lockKey then refuse .badAuthenticator s
  else writeOr s fun t => answered (Answer.ok [0]) (t.withFmn { t.fmn with configLock := false })

/-- UNLOCK (R160). -/
def execUnlock (lane tag key : Nat) (s : State) : Host.Outcome State Fault Refusal := serve (.unlock lane tag key) s (unlockBody key)

/-! ### Zeroise (R161, R162) -/

/-- The lanes whose quotes a zeroise voids: OPEN or HELD (R86, R161). -/
def voidedLanes (s : State) : List Bool := counterLanes.map fun k => (s.quoteAt k).any fun q => decide (q.state ≠ .issuing)

/-- ZEROISE after the checks of R150 (R161, R175). -/
def zeroiseBody (s : State) : Served :=
  let r := zeroise s
  answered
    ⟨if r.1 then .ok else .storeFault,
     fieldBytes [(1, lanesMask (voidedLanes s)), (4, s.flt.reserved - r.2.flt.reserved)], none⟩ r.2

/-- ZEROISE (R161). -/
def execZeroise (lane tag : Nat) (s : State) : Host.Outcome State Fault Refusal := serve (.zeroise lane tag) s zeroiseBody

/-- A start-up that a zeroise's write holds up goes on once none is owed (R164). -/
def resumeStartUp (s : State) : State :=
  if s.fmn.zeroisePending then s
  else
    match s.startUp with
    | .zeroise => startDirectory s
    | .last => startRoll s
    | _ => s

/-- A pending zeroise's write made again (R161). No event when none is pending. -/
def execZeroiseRetry (s : State) : Host.Outcome State Fault Refusal :=
  powered s fun s => if s.fmn.zeroisePending then resumeStartUp (zeroiseWrite s).2 else s

/-- The tamper input is asserted (R162): a zeroise if it was released and supply is on. -/
def execTamperZeroise (s : State) : Host.Outcome State Fault Refusal :=
  .next (if s.supply then resumeStartUp (assertTamper s) else assertTamper s)

/-- The tamper input is released (R162). -/
def execTamperReleased (s : State) : Host.Outcome State Fault Refusal := .next (s.withTamper false)

/-! ### STATUS (R163) -/

/-- One stack entry of STATUS, 0 beyond the depth (R175). -/
def stackBytes (o : Option HoldEntry) : List Byte :=
  match o with
  | some e => fieldBytes [(1, e.saved), (1, e.kind.code), (1, e.level)]
  | none => [0, 0, 0]

/-- The latest fault of STATUS, its fields 0 when absent (R175). -/
def latestBytes (o : Option LatestFault) : List Byte :=
  match o with
  | some f => fieldBytes [(1, 1), (1, f.kind.code), (1, f.level), (3, f.minute), (1, f.acted.code)]
  | none => [0, 0, 0, 0, 0, 0, 0]

/-- The pending change of STATUS: its kind and meter (R163, R175). -/
def changeBytes (o : Option Change) : List Byte :=
  match o with
  | some (.enrolling m _ _ _ _) => fieldBytes [(1, 1), (5, m)]
  | some (.retiring m _ _) => fieldBytes [(1, 2), (5, m)]
  | none => fieldBytes [(1, 0), (5, 0)]

/-- The fault monitor, lock, cipher and float of STATUS: 34 bytes (R163, R175). -/
def statusFirst (s : State) : List Byte :=
  fieldBytes [(1, bit s.fmn.locked), (1, s.fmn.hold), (1, s.fmn.stack.length)] ++ stackBytes s.fmn.stack.reverse[0]? ++
    stackBytes s.fmn.stack.reverse[1]? ++ latestBytes s.fmn.latest ++
    fieldBytes [(1, bit s.fmn.zeroisePending), (1, bit s.fmn.configLock), (1, bit (decide (s.fmn.lockKey = 0))), (1, bit (!s.tcu.passed)),
      (1, bit s.restrictedMode), (4, s.flt.balance), (4, s.flt.reserved)] ++
    presenceBytes s 29 3 s.flt.deadline ++ [BitVec.ofNat 8 (bit s.deadlineReached)]

/-- The clock, tariff, directory and account store of STATUS: 25 bytes (R163, R175). -/
def statusSecond (s : State) : List Byte :=
  fieldBytes [(3, s.clk.minute), (1, s.clk.second), (2, s.clk.month)] ++ presenceBytes s 40 3 s.clk.boundary ++
    beBytes 2 s.ttb.generation ++ presenceBytes s 46 2 s.ttb.armed ++ beBytes 2 s.dir.count ++ changeBytes s.dir.change ++
    beBytes 2 s.ast.free.length

/-- A counter lane of STATUS: level, queue depth, quote state (R163, R175). -/
def laneBytes (s : State) (lane : Nat) : List Byte :=
  fieldBytes [(1, s.levelAt lane), (1, (s.queueAt lane).length)] ++ quoteStateByte s (58 + 3 * lane) (s.quoteAt lane)

/-- The OK payload of STATUS (R163, R175). -/
def statusPayload (s : State) : List Byte :=
  statusFirst s ++ statusSecond s ++ counterLanes.flatMap (laneBytes s) ++ beBytes 1 (s.queueAt 0).length

/-- STATUS after the checks of R150 (R163). -/
def statusBody (s : State) : Served := answered (Answer.ok (statusPayload s)) s

/-- STATUS (R163). -/
def execStatus (lane tag : Nat) (s : State) : Host.Outcome State Fault Refusal := serve (.status lane tag) s statusBody

/-! ### Power-on reset and the loss of supply (R84, R164) -/

/-- Every block's power-on values, and everything that is retained or battery-kept as it was (R164 step 1; R88, R131, R142 to R153). R45
gives the cipher state no value between here and the start-up self-test, nor without supply: it stands as it was, and nothing is served
that could read it. DESIGN CHOICE, notes/assumptions/34. -/
def powerOnValues (s : State) : State :=
  { s with
    supply := true, startUp := .done, olk := Olk.powerOn, serving := none, freeReads := s.freeReads + 1
    lqa := { s.lqa with queues := Vector.replicate 9 [], notes := Vector.replicate 8 .none, pointers := Vector.replicate 6 8 }
    qtb := { s.qtb with
      quotes := Vector.replicate 8 none, review := .counting ((Config.lfsr s.freeReads).toNat % 8) }
    zks := { s.zks with erasing := [] }
    tcu := { s.tcu with uses := 0 }
    flt := { s.flt with reserved := 0, noted := s.deadlineReached }
    clk := { s.clk with rollWaiting := false }
    fmn := { s.fmn with hold := 0, stack := [], locked := false, latest := none, zeroisePending := false } }

/-- Start-up from step 2 on (R162, R164). -/
def startZeroise (s : State) : State :=
  if s.tamper then
    match zeroise s with
    | (true, t) => startDirectory t
    | (false, t) => t.withStartUp .zeroise
  else startDirectory s

/-- Supply comes on, or the reset input is asserted (R164). -/
def execPowerOnReset (s : State) : Host.Outcome State Fault Refusal := .next (startZeroise (powerOnValues s))

/-- Supply is lost: working store is lost; the retained store and the clock stay (R84, R88, notes/assumptions/29). -/
def execSupplyLoss (s : State) : Host.Outcome State Fault Refusal := .next ((powerOnValues s).withSupply false)

end Sys2Proof.Machine
end

