-- ==== Sys2Proof/Machine/Dispatch.lean ====
section
/-! DEFINITION. Every command to its meaning. -/

namespace Sys2Proof.Machine

/-- A command's effect on everything but the queue of commands. -/
def exec (i : Instr) (s : State) : Host.Outcome State Fault Refusal :=
  match i with
  | .query lane tag meter => Sys2Proof.Machine.execQuery lane tag meter s
  | .list lane tag start => Sys2Proof.Machine.execList lane tag start s
  | .verify lane tag meter token => Sys2Proof.Machine.execVerify lane tag meter token s
  | .quote lane tag meter tender => Sys2Proof.Machine.execQuote lane tag meter tender s
  | .issue lane tag => Sys2Proof.Machine.execIssue lane tag s
  | .withdraw lane tag => Sys2Proof.Machine.execWithdraw lane tag s
  | .reprint lane tag meter => Sys2Proof.Machine.execReprint lane tag meter s
  | .enrol lane tag meter plan revision eligible arrears rate => Sys2Proof.Machine.execEnrol lane tag meter plan revision eligible arrears rate s
  | .retire lane tag meter writeOff => Sys2Proof.Machine.execRetire lane tag meter writeOff s
  | .amend lane tag meter f => Sys2Proof.Machine.execAmend lane tag meter f s
  | .suspend lane tag meter => Sys2Proof.Machine.execSuspend lane tag meter s
  | .resume lane tag meter => Sys2Proof.Machine.execResume lane tag meter s
  | .restore lane tag meter f => Sys2Proof.Machine.execRestore lane tag meter f s
  | .countersign lane tag counter => Sys2Proof.Machine.execCountersign lane tag counter s
  | .loadPlan lane tag index clear f => Sys2Proof.Machine.execLoadPlan lane tag index clear f s
  | .armPlans lane tag disarm month => Sys2Proof.Machine.execArmPlans lane tag disarm month s
  | .zoneSet lane tag zone f => Sys2Proof.Machine.execZoneSet lane tag zone f s
  | .keyLoad lane tag slot key check => Sys2Proof.Machine.execKeyLoad lane tag slot key check s
  | .keyRoll lane tag zone slot => Sys2Proof.Machine.execKeyRoll lane tag zone slot s
  | .setClock lane tag minute => Sys2Proof.Machine.execSetClock lane tag minute s
  | .setBoundary lane tag clear minute => Sys2Proof.Machine.execSetBoundary lane tag clear minute s
  | .grant lane tag sequence amount hours number auth => Sys2Proof.Machine.execGrant lane tag sequence amount hours number auth s
  | .statement lane tag again => Sys2Proof.Machine.execStatement lane tag again s
  | .setHold lane tag level => Sys2Proof.Machine.execSetHold lane tag level s
  | .ackFault lane tag => Sys2Proof.Machine.execAckFault lane tag s
  | .laneLevel lane tag counter level => Sys2Proof.Machine.execLaneLevel lane tag counter level s
  | .setCountersign lane tag period threshold => Sys2Proof.Machine.execSetCountersign lane tag period threshold s
  | .setLimits lane tag ceiling cap lease => Sys2Proof.Machine.execSetLimits lane tag ceiling cap lease s
  | .lock lane tag key => Sys2Proof.Machine.execLock lane tag key s
  | .unlock lane tag key => Sys2Proof.Machine.execUnlock lane tag key s
  | .zeroise lane tag => Sys2Proof.Machine.execZeroise lane tag s
  | .status lane tag => Sys2Proof.Machine.execStatus lane tag s
  | .setLink lane tag divisor parity stopBits => Sys2Proof.Machine.execSetLink lane tag divisor parity stopBits s
  | .unknownRequestKind lane tag kind payload => Sys2Proof.Machine.execUnknownRequestKind lane tag kind payload s
  | .frameReceived chars => Sys2Proof.Machine.execFrameReceived chars s
  | .interByteTimeout => Sys2Proof.Machine.execInterByteTimeout s
  | .linkAnswerPlaced => Sys2Proof.Machine.execLinkAnswerPlaced s
  | .replySent => Sys2Proof.Machine.execReplySent s
  | .linkBreak => Sys2Proof.Machine.execLinkBreak s
  | .leaseExpiry lane => Sys2Proof.Machine.execLeaseExpiry lane s
  | .deadlineExpiry => Sys2Proof.Machine.execDeadlineExpiry s
  | .monthRoll => Sys2Proof.Machine.execMonthRoll s
  | .monthRollRetry => Sys2Proof.Machine.execMonthRollRetry s
  | .clockEnd => Sys2Proof.Machine.execClockEnd s
  | .enrolMoveStep => Sys2Proof.Machine.execEnrolMoveStep s
  | .placingStep => Sys2Proof.Machine.execPlacingStep s
  | .retireMoveStep => Sys2Proof.Machine.execRetireMoveStep s
  | .closingStep => Sys2Proof.Machine.execClosingStep s
  | .keyEraseRetry slot => Sys2Proof.Machine.execKeyEraseRetry slot s
  | .zeroiseRetry => Sys2Proof.Machine.execZeroiseRetry s
  | .tamperZeroise => Sys2Proof.Machine.execTamperZeroise s
  | .powerOnReset => Sys2Proof.Machine.execPowerOnReset s
  | .clockSecond => Sys2Proof.Machine.execClockSecond s
  | .characterReceived c => Sys2Proof.Machine.execCharacterReceived c s
  | .tamperReleased => Sys2Proof.Machine.execTamperReleased s
  | .receiveWireReturnsHigh => Sys2Proof.Machine.execReceiveWireReturnsHigh s
  | .supplyLoss => Sys2Proof.Machine.execSupplyLoss s

end Sys2Proof.Machine
end

