-- ==== Sys2Proof/Machine/Step.lean ====
section
/-! DEFINITION. One step of the part: the command at the front of the queue, or, with none waiting, what the part does on its own. -/

namespace Sys2Proof.Machine

/-- An answer of the office link that waits, and a place of the reply queue that is free (R170). -/
def State.answerFits (s : State) : Bool := s.supply && s.olk.asm.isWaiting && s.placeFree

/-- What the part does on its own, one thing at a time: a waiting link answer is placed (R170), else the arbiter grants a waiting request
(R147), else the transmitter sends a character (R173); nothing is changed by a part with none of these to do. DESIGN CHOICE,
notes/assumptions/2. -/
def idle (s : State) : Host.Outcome State Fault Refusal :=
  if s.answerFits then exec .linkAnswerPlaced s
  else
    match s.nextLane with
    | some lane =>
      match s.queueAt lane with
      | r :: _ => exec (r.command lane) s
      | [] => .next s
    | none => .next (txAdvance s)

/-- One step: the command at the front of the queue on the state with the queue's rest; on an empty queue, the part on its own. -/
def step (s : State) : Host.Outcome State Fault Refusal :=
  match s.pending with
  | [] => idle s
  | c :: rest => exec c (s.withPending rest)

/-- The state with the command a table word spells at the front of its queue; unchanged where the word spells none, as every word does
(notes/assumptions/30). -/
def State.withFetchWord (s : State) (nbits w : Nat) : State :=
  match decodeTableWord nbits w with
  | some c => s.withPending (c :: s.pending)
  | none => s

end Sys2Proof.Machine
end

