-- ==== Sys2Proof/WellFormed.lean ====
section
/-! DEFINITION. Which commands are well formed: each field within what its bytes can spell, lanes and tags within what a frame carries. -/

namespace Sys2Proof

/-- A number that `n` bytes can spell. -/
def inBytes (n v : Nat) : Bool := decide (v < 256 ^ n)

/-- The lane and tag of a request that can enter a lane queue (R142, R168): lane 0 to 8, tag 0 to 15. -/
def laneTag (lane tag : Nat) : Bool := decide (lane ≤ 8) && decide (tag ≤ 15)

/-- The kind codes of the request catalogue (R175). -/
def catalogueCode (kind : Nat) : Bool :=
  (decide (1 ≤ kind) && decide (kind ≤ 7)) || (decide (0x10 ≤ kind) && decide (kind ≤ 0x29))

/-- Each AMEND field fits its bytes. -/
def AmendFields.wf (f : AmendFields) : Bool :=
  inBytes 1 f.present && inBytes 1 f.plan && inBytes 4 f.arrears && inBytes 1 f.rate && inBytes 1 f.eligible && inBytes 1 f.revision

/-- Each RESTORE field fits its bytes. -/
def RestoreFields.wf (f : RestoreFields) : Bool :=
  inBytes 1 f.state && inBytes 1 f.zone && inBytes 1 f.plan && inBytes 1 f.revision && inBytes 1 f.flags && inBytes 2 f.stamp &&
  inBytes 2 f.units && inBytes 4 f.arrears && inBytes 1 f.rate && inBytes 3 f.carry && inBytes 3 f.firstTid && inBytes 1 f.count &&
  inBytes 2 f.credit && inBytes 2 f.free && inBytes 1 f.fromRev && inBytes 1 f.toRev

/-- Each LOAD PLAN field fits its bytes. -/
def PlanFields.wf (f : PlanFields) : Bool :=
  inBytes 4 f.fixed && inBytes 4 f.minimum && inBytes 2 f.ceiling && inBytes 2 f.free && inBytes 1 f.blocks &&
  inBytes 2 f.bound1 && inBytes 2 f.bound2 && inBytes 2 f.bound3 &&
  inBytes 4 f.price1 && inBytes 4 f.price2 && inBytes 4 f.price3 && inBytes 4 f.price4

/-- Each ZONE SET field fits its bytes. -/
def ZoneFields.wf (f : ZoneFields) : Bool :=
  inBytes 1 f.action && inBytes 5 f.value && inBytes 5 f.mask && inBytes 1 f.group && inBytes 1 f.keys &&
  inBytes 1 f.currentRev && inBytes 1 f.currentSlot && inBytes 1 f.previousRev && inBytes 1 f.previousSlot

/-- A well-formed command. -/
def Instr.wf : Instr → Bool
  | .query l t m => laneTag l t && inBytes 5 m
  | .list l t m => laneTag l t && inBytes 5 m
  | .verify l t m k => laneTag l t && inBytes 5 m && inBytes 8 k
  | .quote l t m c => laneTag l t && inBytes 5 m && inBytes 4 c
  | .issue l t => laneTag l t
  | .withdraw l t => laneTag l t
  | .reprint l t m => laneTag l t && inBytes 5 m
  | .enrol l t m p r e a w =>
      laneTag l t && inBytes 5 m && inBytes 1 p && inBytes 1 r && inBytes 1 e && inBytes 4 a && inBytes 1 w
  | .retire l t m w => laneTag l t && inBytes 5 m && inBytes 1 w
  | .amend l t m f => laneTag l t && inBytes 5 m && f.wf
  | .suspend l t m => laneTag l t && inBytes 5 m
  | .resume l t m => laneTag l t && inBytes 5 m
  | .restore l t m f => laneTag l t && inBytes 5 m && f.wf
  | .countersign l t k => laneTag l t && inBytes 1 k
  | .loadPlan l t x c f => laneTag l t && inBytes 1 x && inBytes 1 c && f.wf
  | .armPlans l t d m => laneTag l t && inBytes 1 d && inBytes 2 m
  | .zoneSet l t z f => laneTag l t && inBytes 1 z && f.wf
  | .keyLoad l t x k c => laneTag l t && inBytes 1 x && inBytes 8 k && inBytes 3 c
  | .keyRoll l t z x => laneTag l t && inBytes 1 z && inBytes 1 x
  | .setClock l t m => laneTag l t && inBytes 3 m
  | .setBoundary l t c m => laneTag l t && inBytes 1 c && inBytes 3 m
  | .grant l t q a h n k => laneTag l t && inBytes 2 q && inBytes 4 a && inBytes 2 h && inBytes 2 n && inBytes 8 k
  | .statement l t r => laneTag l t && inBytes 1 r
  | .setHold l t v => laneTag l t && inBytes 1 v
  | .ackFault l t => laneTag l t
  | .laneLevel l t k v => laneTag l t && inBytes 1 k && inBytes 1 v
  | .setCountersign l t p h => laneTag l t && inBytes 2 p && inBytes 4 h
  | .setLimits l t c k e => laneTag l t && inBytes 4 c && inBytes 4 k && inBytes 2 e
  | .lock l t k => laneTag l t && inBytes 8 k
  | .unlock l t k => laneTag l t && inBytes 8 k
  | .zeroise l t => laneTag l t
  | .status l t => laneTag l t
  | .setLink l t d p b => laneTag l t && inBytes 1 d && inBytes 1 p && inBytes 1 b
  | .unknownRequestKind l t k p =>
      laneTag l t && inBytes 1 k && !catalogueCode k && decide (p.length ≤ 124)
  | .frameReceived _ => true
  | .interByteTimeout => true
  | .linkAnswerPlaced => true
  | .replySent => true
  | .linkBreak => true
  | .leaseExpiry lane => decide (1 ≤ lane) && decide (lane ≤ 8)
  | .deadlineExpiry => true
  | .monthRoll => true
  | .monthRollRetry => true
  | .clockEnd => true
  | .enrolMoveStep => true
  | .placingStep => true
  | .retireMoveStep => true
  | .closingStep => true
  | .keyEraseRetry slot => decide (slot ≤ 15)
  | .zeroiseRetry => true
  | .tamperZeroise => true
  | .powerOnReset => true
  | .clockSecond => true
  | .characterReceived _ => true
  | .tamperReleased => true
  | .receiveWireReturnsHigh => true
  | .supplyLoss => true

end Sys2Proof
end

