-- ==== Sys2Proof/Safety.lean ====
section
/-! DEFINITION. What holds of every state a run reaches: the bounds and laws the spec states of the part, in the terms statements use. -/

namespace Sys2Proof.Machine

/-! ### Between two steps -/

/-- No request is half served: the sales engine is free and no quote is ISSUING (R70, R147). -/
abbrev State.settled (s : State) : Prop :=
  s.serving = none ∧ ∀ k ∈ counterLanes, (s.quoteAt k).all (fun q => decide (q.state ≠ .issuing)) = true

/-- The fault monitor's bounds: at most two entries, levels 0 to 6 (R153). -/
abbrev Fmn.bounded (m : Fmn) : Prop :=
  m.stack.length ≤ 2 ∧ m.hold ≤ 6 ∧ ∀ e ∈ m.stack, e.saved ≤ 6 ∧ e.level = e.kind.level

/-- The bounds of the queues: four requests to a lane, sixteen replies with the reserved place (R142, R149, R173). -/
abbrev State.queuesBounded (s : State) : Prop :=
  (∀ k ∈ List.range 9, (s.queueAt k).length ≤ Config.queuePlaces) ∧
  s.olk.replies.length + (if s.serving.any (·.placeHeld) then 1 else 0) ≤ Config.replyPlaces

/-- The clock's bounds (R131). -/
abbrev Clk.bounded (c : Clk) : Prop := c.second ≤ 59 ∧ c.minute ≤ Config.lastMinute ∧ c.month ≤ Config.lastMonth

/-- The lane levels and turn pointers in their ranges (R143, R148). -/
abbrev Lqa.bounded (l : Lqa) : Prop := (∀ v ∈ l.levels.toList, v ≤ 6) ∧ ∀ p ∈ l.pointers.toList, 1 ≤ p ∧ p ≤ 8

/-- What every step keeps, whatever the commands: no request half served, the bounds of the fault monitor, the queues, the lanes and the
use counter, and the account store's canonical form. -/
abbrev State.steady (s : State) : Prop :=
  s.settled ∧ s.fmn.bounded ∧ s.queuesBounded ∧ s.lqa.bounded ∧ s.tcu.uses ≤ Config.usesPerTest ∧ s.ast.slots.wf = true

/-! ### The float's law (R115) -/

/-- The accepted tenders of the quotes in the quote table. -/
def State.acceptedSum (s : State) : Nat := (counterLanes.map fun k => ((s.quoteAt k).map (·.accepted)).getD 0).sum

/-- Reserved is the sum of the accepted tenders, and reserved, balance and ceiling stand in order (R115). -/
abbrev State.floatLaw (s : State) : Prop :=
  s.flt.reserved = s.acceptedSum ∧ s.flt.reserved ≤ s.flt.balance ∧ s.flt.balance ≤ s.flt.ceiling

/-! ### What a zeroise's or a link break's voids leave (R76, R86, R87, R161) -/

/-- The quotes of a state that such a void reaches: those not ISSUING. -/
def State.waitingQuotes (s : State) : List Quote :=
  counterLanes.filterMap fun k => (s.quoteAt k).filter fun q => decide (q.state ≠ .issuing)

/-- `t` has the quotes of `s` voided: the entries empty and the shadow slots in the free pool, the tenders no longer reserved, a review tag's
counter restarted, each lane voided with the note; and the rest of those blocks as it was. -/
abbrev voided (note : Note) (s t : State) : Prop :=
  (∀ k ∈ counterLanes, t.quoteAt k = ((s.quoteAt k).filter fun q => decide (q.state = .issuing)) ∧
    t.noteAt k = if (s.quoteAt k).any (fun q => decide (q.state ≠ .issuing)) then note else s.noteAt k) ∧
  t.ast.free.Perm (s.ast.free ++ s.waitingQuotes.map (·.shadow)) ∧ t.ast.slots = s.ast.slots ∧
  ((∃ q ∈ s.waitingQuotes, q.review = true) → ∃ v, v ≤ 7 ∧ t.qtb.review = .counting v) ∧
  ((∀ q ∈ s.waitingQuotes, q.review = false) → t.qtb.review = s.qtb.review) ∧
  t.qtb.period = s.qtb.period ∧ t.qtb.threshold = s.qtb.threshold ∧
  t.flt = { s.flt with reserved := t.flt.reserved } ∧ (s.floatLaw → t.flt.reserved = t.acceptedSum)

/-- What a zeroise leaves as it was, one retained write drawn: all but the quotes and notes, the key slots, the fault monitor, the tamper
input and what the request being served remembers of it (R76, R161). -/
abbrev zeroiseKeeps (s t : State) : Prop :=
  t.dir = s.dir ∧ t.ttb = s.ttb ∧ t.clk = s.clk ∧ t.tcu = s.tcu ∧ t.olk = s.olk ∧ t.lqa = { s.lqa with notes := t.lqa.notes } ∧
  t.serving = s.serving.map (fun v => { v with cause := some .voided }) ∧ t.supply = s.supply ∧ t.startUp = s.startUp ∧
  t.pending = s.pending ∧ t.env = (drawWrite s).2.env

/-- `t` is `s` after a zeroise whose write was made (R161). -/
abbrev zeroised (s t : State) : Prop :=
  voided .voided s t ∧ t.zks = { s.zks with slots := Vector.replicate 16 .erased, erasing := [] } ∧
  t.fmn = { s.fmn with zeroisePending := false, configLock := false, lockKey := 0 } ∧ zeroiseKeeps s t

/-- `t` is `s` after a zeroise whose write failed: pending, every slot met as ERASED, and a STORE_WRITE fault; the stored slots, the lock and
its key as they were (R161). -/
abbrev zeroiseOwed (s t : State) : Prop :=
  voided .voided s t ∧ t.zks = s.zks ∧ (∀ n, t.slotAt n = .erased) ∧
  t.fmn = Fmn.arrive .storeWrite s.clk.minute { s.fmn with zeroisePending := true } ∧ zeroiseKeeps s t

/-! ### The directory (R10 to R13) -/

/-- The meters of a list of entries. -/
def meters (es : List Entry) : List Nat := es.map (·.meter)

/-- A pending change fits the list: positions within it, the insertion position between the smaller and the larger meters (R11, R12). -/
def Dir.fits (d : Dir) : Change → Bool
  | .enrolling m _ _ p c =>
    decide (p ≤ c) && decide (c ≤ d.entries.length) && (meters (d.view.take p)).all (fun x => decide (x < m)) &&
      (meters (d.view.drop p)).all (fun x => decide (m < x))
  | .retiring _ _ c => decide (c < d.entries.length)

/-- The directory in order: its entries in strictly ascending meter order, and at most 4000 of them with a pending enrolment (R10). -/
abbrev Dir.ordered (d : Dir) : Prop :=
  (meters d.view).Pairwise (· < ·) ∧ d.change.all d.fits = true ∧ d.count ≤ Config.maxEntries

/-! ### Cipher uses (R36, R43) -/

/-- A slot whose stored key agrees with its check value (R36). -/
abbrev State.sound (s : State) (slot : Nat) (key : Block) : Prop := s.slotAt slot = .loaded key (checkValue key)

/-- The next `n` cipher uses pass without a self-test falling due and without an event among them (R43, R84). -/
abbrev State.calm (s : State) (n : Nat) : Prop := s.tcu.passed = true ∧ s.tcu.uses + n ≤ Config.usesPerTest ∧ s.env.mid = []

/-- The state after `n` cipher uses that nothing but the use counter shows (R43). -/
def State.used (s : State) (n : Nat) : State := s.withTcu { s.tcu with uses := s.tcu.uses + n }

/-- The blocks chained under a key (R122). -/
def chained (key : Block) (bs : List Block) : Block := bs.foldl (fun a b => encipher key (a ^^^ b)) 0

/-- The meter key of a meter at a revision under a base key, in a supply group (R39). -/
def meterKey (base : Block) (meter rev group : Nat) : Block := encipher base (derivationBlock meter rev group)

/-- The tokens of a set's parts, enciphered with rising identifiers from the first (R97, R106). -/
def setTokens : Nat → List (Block × TokenClass × Nat) → List Block
  | _, [] => []
  | tid, (k, c, p) :: rest => encipher k (plainToken c tid p) :: setTokens (tid + 1) rest

/-! ### The configuration lock (R159) -/

/-- The requests the configuration lock refuses (R159). -/
def lockable : Instr → Bool
  | .loadPlan .. | .armPlans .. | .zoneSet .. | .keyLoad .. | .keyRoll .. | .setLimits .. | .setCountersign .. | .laneLevel .. => true
  | _ => false

/-- The requests whose own work is one retained write at most and no cipher use (R30, R31, R49, R50, R95, R129, R137, R144, R159, R160). -/
def oneWrite : Instr → Bool
  | .loadPlan .. | .armPlans .. | .zoneSet .. | .keyRoll .. | .setLimits .. | .setCountersign .. | .laneLevel .. | .setBoundary ..
  | .lock .. | .unlock .. => true
  | _ => false

end Sys2Proof.Machine
end

