-- ==== Sys2Proof/Certificates/Slice0/Obligations.lean ====
section
/-! DEFINITION. The statements for the provers, each about every state and every operand unless its hypotheses say otherwise. -/

section Statements

open Sys2Proof Sys2Proof.Machine

/-! ### The machine: commands, grants, replies -/

/-- A step runs the command at the front of the queue on the state with the queue's rest. -/
def Obligations.StepRunsFrontCommand : Prop :=
  ∀ (c : Instr) (rest : List Instr) (s : State), s.pending = c :: rest → Machine.step s = exec c (s.withPending rest)

/-- With no command waiting the part acts on its own, one thing a step: a waiting link answer, else a grant, else a character sent. Sending,
the shift register takes the byte in the holding byte, the holding byte the next of the first reply's frame, and so through the frame's last
byte, whose end is the reply's. A reply's frame is 0x5A, the length, the lane and tag, the kind, the status, the payload and the CRC-16 over
all from the lane and tag on, high byte first; the statuses are numbered from 0 in the catalogue's order.
What an idle step does, and that it sends a whole character, are the model's choices: notes/assumptions/2 and 24. -/
def Obligations.IdleStep : Prop :=
  (∀ s : State, s.pending = [] →
    (s.answerFits = true → Machine.step s = exec .linkAnswerPlaced s) ∧
    (s.answerFits = false → ∀ lane r rest, s.nextLane = some lane → s.queueAt lane = r :: rest →
      Machine.step s = exec (r.command lane) s) ∧
    (s.answerFits = false → s.nextLane = none → Machine.step s = .next (txAdvance s) ∧
      (s.supply = false ∨ s.olk.tx.shift = none → Machine.step s = .next s) ∧
      (s.supply = true → ∀ (c : SentChar) (k : Nat),
        (s.olk.replies = [] → s.olk.tx = ⟨some c, none, k⟩ → Machine.step s = .next (s.withOlk { s.olk with tx := ⟨none, none, k⟩ })) ∧
        ∀ r rest, s.olk.replies = r :: rest → s.olk.tx = ⟨some c, r.frame[k]?, min (k + 1) r.frame.length⟩ →
          (k < r.frame.length → Machine.step s = .next (s.withOlk { s.olk with
            tx := ⟨r.frame[k]?.map s.olk.settings.char, r.frame[k + 1]?, min (k + 2) r.frame.length⟩ })) ∧
          (k = r.frame.length → Machine.step s = exec .replySent s)))) ∧
  (∀ (r : Reply) (body : List Byte) (crc : BitVec 16),
    body = BitVec.ofNat 8 (r.lane * 16 + r.tag) :: BitVec.ofNat 8 r.kind :: BitVec.ofNat 8 r.status.code :: r.payload →
    crc = (body.flatMap fun b => [7, 6, 5, 4, 3, 2, 1, 0].map b.getLsbD).foldl
      (fun (c : BitVec 16) b => if c.msb = b then c <<< 1 else (c <<< 1) ^^^ 0x1021) 0xFFFF →
    r.frame = 0x5A :: BitVec.ofNat 8 body.length :: body ++ [crc.extractLsb' 8 8, crc.extractLsb' 0 8]) ∧
  [Status.ok, .malformed, .laneFull, .laneClosed, .notPermitted, .locked, .notFound, .quarantined, .suspended, .meterBusy, .duplicate,
    .directoryFull, .debtOpen, .noZone, .zoneEmbargo, .noPlan, .keyUnavailable, .slotInUse, .cipherFault, .tenderLow, .ceilingReached,
    .floatShort, .rateLimit, .quoteOpen, .noQuote, .late, .voided, .countersignRequired, .storeFault, .noIssue, .badAuthenticator,
    .outOfSequence, .outOfRange, .clockBackward, .clockEnd, .configLocked, .notHeld].map (·.code) = List.range 37

/-- Between two requests, with a slot in the free pool, every command completes and leaves the waiting commands alone: neither of the
model's two stops is met.
Where the model stops is its own choice: notes/assumptions/21. -/
def Obligations.EveryCommandCompletes : Prop :=
  ∀ (c : Instr) (s : State), s.settled → s.ast.free ≠ [] → ∃ t, exec c s = .next t ∧ t.pending = s.pending

/-- A grant is made to the head request of a lane above the hold level, with the engine free and a place for the reply, and to an ENROL, a
RETIRE or a RESTORE only while the directory has no pending change; it takes the request off its queue, points the level's turn at the lane
and changes nothing else. That a command finding its lane's queue empty brings the request with it is the model's choice:
notes/assumptions/1. -/
def Obligations.GrantTakesRequest : Prop :=
  ∀ (i : Instr) (s g : State), taken i s = some g →
    ∃ lane r rest, i.request = some (lane, r) ∧
      (s.queueAt lane = r :: rest ∨ s.queueAt lane = [] ∧ rest = []) ∧
      s.supply = true ∧ s.startUp = .done ∧ s.serving = none ∧ s.olk.replies.length < 16 ∧ s.fmn.hold < s.levelAt lane ∧
      (lane = 0 → r.kind = 0x10 ∨ r.kind = 0x11 ∨ r.kind = 0x15 → s.dir.change = none) ∧
      g.serving = some ⟨lane, r.tag, r.kind, true, none⟩ ∧ g.queueAt lane = rest ∧ (∀ k, k ≠ lane → g.queueAt k = s.queueAt k) ∧
      (lane ≠ 0 → g.pointerAt (s.levelAt lane) = lane) ∧
      (∀ v, v ≠ s.levelAt lane → 1 ≤ v → g.pointerAt v = s.pointerAt v) ∧
      g = (s.withLqa { s.lqa with queues := g.lqa.queues, pointers := g.lqa.pointers }).withServing g.serving

/-- The two checks made before a request's own: LOCKED for all but the supervisor's STATUS and ZEROISE, then NOT_PERMITTED by lane and
kind; a request answered at either changes nothing, and one that passes both is taken. A kind outside the catalogue is NOT_PERMITTED on
every lane. -/
def Obligations.LockedThenNotPermitted : Prop :=
  (∀ (i : Instr) (lane : Nat) (r : Request) (s g : State), i.request = some (lane, r) → grantTo lane r s = some g →
    (g.fmn.locked = true → ¬ (lane = 0 ∧ (r.kind = 0x28 ∨ r.kind = 0x27)) → exec i s = .next (finish (Answer.bare .locked) g)) ∧
    ((g.fmn.locked = true → lane = 0 ∧ (r.kind = 0x28 ∨ r.kind = 0x27)) →
      ((lane = 0 ∧ (1 ≤ r.kind ∧ r.kind ≤ 3 ∨ 0x10 ≤ r.kind ∧ r.kind ≤ 0x29) ∨ lane ≠ 0 ∧ 1 ≤ r.kind ∧ r.kind ≤ 7 →
        taken i s = some g) ∧
      (¬ (lane = 0 ∧ (1 ≤ r.kind ∧ r.kind ≤ 3 ∨ 0x10 ≤ r.kind ∧ r.kind ≤ 0x29) ∨ lane ≠ 0 ∧ 1 ≤ r.kind ∧ r.kind ≤ 7) →
        exec i s = .next (finish (Answer.bare .notPermitted) g))))) ∧
  (∀ (lane tag kind : Nat) (payload : List Byte) (s g : State), (kind = 0 ∨ 8 ≤ kind ∧ kind ≤ 0xF ∨ 0x2A ≤ kind) →
    g.fmn.locked = false → grantTo lane ⟨tag, kind, payload⟩ s = some g →
    exec (.unknownRequestKind lane tag kind payload) s = .next (finish (Answer.bare .notPermitted) g))

/-- An answer enters the tail of the reply queue with the lane, tag and kind of the request served, in the place reserved for it; a place
that a link break took away takes the reply with it. Either way the engine is free and nothing else changes. An empty transmitter takes the
frame's first two bytes, one that still sends a character from before a link break the first alone, and one in the midst of a reply none.
The counter of free values that moves on, and how the transmitter is held, are the model's own: notes/assumptions/7 and 24. -/
def Obligations.ReplyPlaced : Prop :=
  ∀ (a : Answer) (s : State) (v : Serving) (p : Reply), s.serving = some v →
    p = ⟨v.lane, v.tag, v.kind, a.status, a.payload, a.settings⟩ →
    finish a s = ((s.withFreeReads (s.freeReads + 1)).withServing none).withOlk
      { s.olk with replies := (finish a s).olk.replies, tx := (finish a s).olk.tx } ∧
    (v.placeHeld = true →
      (finish a s).olk.replies = s.olk.replies ++ [p] ∧
      (s.olk.replies = [] →
        (s.olk.tx = ⟨none, none, 0⟩ → (finish a s).olk.tx = ⟨p.frame[0]?.map s.olk.settings.char, p.frame[1]?, 2⟩) ∧
        ∀ c, s.olk.tx = ⟨some c, none, 0⟩ → (finish a s).olk.tx = ⟨some c, p.frame[0]?, 1⟩) ∧
      ∀ r rest c k, s.olk.replies = r :: rest → s.olk.tx = ⟨some c, r.frame[k]?, min (k + 1) r.frame.length⟩ →
        (finish a s).olk.tx = s.olk.tx) ∧
    (v.placeHeld = false → (finish a s).olk = s.olk)

/-- A lane is ready when a request waits in it above the hold level, but for the supervisor lane while an ENROL, a RETIRE or a RESTORE heads it
and a directory change is pending. The arbiter grants when the part runs, the engine is free, a reply place is free and a lane is ready; it
grants the supervisor lane first, else a lane of the highest level among the ready ones, the first after that level's pointer in cyclic
order. -/
def Obligations.ArbiterPicksHighest : Prop :=
  ∀ s : State,
    (∀ k, s.ready k = true ↔ s.fmn.hold < s.levelAt k ∧ ∃ r rest, s.queueAt k = r :: rest ∧
      ¬ (k = 0 ∧ s.dir.change.isSome = true ∧ (r.kind = 0x10 ∨ r.kind = 0x11 ∨ r.kind = 0x15))) ∧
    (∀ k, s.nextLane = some k → s.ready k = true ∧
      (k ≠ 0 → k ∈ counterLanes ∧ s.ready 0 = false ∧
        ∀ j ∈ counterLanes, s.ready j = true → s.levelAt j ≤ 6 → s.levelAt j ≤ s.levelAt k ∧
          (s.levelAt j = s.levelAt k →
            (turnOrder (s.pointerAt (s.levelAt k))).idxOf k ≤ (turnOrder (s.pointerAt (s.levelAt k))).idxOf j))) ∧
    (s.running = true → s.serving = none → s.placeFree = true →
      (s.ready 0 = true ∨ ∃ j ∈ counterLanes, s.ready j = true ∧ s.levelAt j ≤ 6) → s.nextLane.isSome = true)

/-- The catalogue is read as it is written: every well-formed request command is the command that its own frame's request spells. -/
def Obligations.RequestRoundTrip : Prop :=
  ∀ (i : Instr) (lane : Nat) (r : Request), i.wf = true → i.request = some (lane, r) → r.command lane = i

/-! ### The office link -/

/-- The characters of a request's frame, received without error by a hunting assembler, put exactly that request at the tail of its lane's
queue, leave the receive shift register empty and change nothing else. That FRAME_RECEIVED carries its characters is the model's choice:
notes/assumptions/22; that a character's bits come with its end, notes/assumptions/23. -/
def Obligations.FrameEntersQueue : Prop :=
  ∀ (lane : Nat) (r : Request) (s : State) (chars : List LineChar),
    lane ≤ 8 → r.tag ≤ 15 → r.kind ≤ 255 → r.payload.length ≤ 124 → wrongLength r.kind r.payload = false →
    s.receiving = true → s.olk.asm = .hunt → s.olk.hold = none → (lane ≠ 0 → s.levelAt lane ≠ 0) → (s.queueAt lane).length < 4 →
    chars.map (·.data) = requestFrame lane r → (∀ c ∈ chars.take 1, charError s.olk.rxSettings c = false) →
    (∀ c ∈ chars.drop 1, charError s.olk.settings c = false) →
    exec (.frameReceived chars) s = .next (setQueue lane (s.queueAt lane ++ [r]) (s.withOlk { s.olk with shift := none }))

/-- A character that ends leaves the shift register empty: an overrun marks the byte still held, a waiting assembler leaves the byte in the
holding byte, and otherwise the assembler takes it in HUNT, LENGTH, BODY and CHECK as its table gives, with the error mark of a wrong parity
or a low stop bit at the settings of its start bit. Characters come whole: the model's choice, notes/assumptions/23. -/
def Obligations.CharacterTaken : Prop :=
  ∀ (c : LineChar) (s t : State) (wrong : Bool), s.receiving = true → t = s.withOlk { s.olk with shift := none } →
    wrong = charError (s.olk.shift.getD s.olk.settings) c →
    (∀ h, s.olk.hold = some h →
      exec (.characterReceived c) s = .next (t.withOlk { t.olk with hold := some { h with overrun := true } })) ∧
    (s.olk.hold = none →
      (∀ r, s.olk.asm = .waiting r →
        exec (.characterReceived c) s = .next (t.withOlk { t.olk with hold := some ⟨c.data, wrong, false⟩ })) ∧
      (s.olk.asm = .hunt →
        exec (.characterReceived c) s = .next (if c.data = 0xA5 ∧ wrong = false then t.withOlk { t.olk with asm := .length } else t)) ∧
      (s.olk.asm = .length →
        exec (.characterReceived c) s =
          .next (setAsm
            (if 2 ≤ c.data.toNat ∧ c.data.toNat ≤ 126 ∧ wrong = false then .body c.data.toNat [] false else .hunt) t)) ∧
      (∀ n taken bad, s.olk.asm = .body n taken bad →
        exec (.characterReceived c) s =
          .next (setAsm
            (if taken.length + 1 < n then .body n (taken ++ [c.data]) (bad || wrong) else .check (taken ++ [c.data]) none (bad || wrong))
            t)) ∧
      ∀ taken bad, s.olk.asm = .check taken none bad →
        exec (.characterReceived c) s = .next (t.withOlk { t.olk with asm := .check taken (some c.data) (bad || wrong) })) ∧
    (wrong = true ↔ c.stopBit = false ∨ ∃ p, s.olk.shift.getD s.olk.settings = p ∧
      (p.parity = .even ∧ ((List.range 8).map c.data.getLsbD ++ [c.parityBit]).count true % 2 = 1 ∨
        p.parity = .odd ∧ ((List.range 8).map c.data.getLsbD ++ [c.parityBit]).count true % 2 = 0))

/-- The last character of a frame judges it: lanes 9 to 15 are discarded; a frame marked bad, of a wrong CRC or of a wrong length is
answered MALFORMED, a closed lane LANE_CLOSED, a full queue LANE_FULL, each answer placed or held; anything else enters its queue. -/
def Obligations.FrameJudged : Prop :=
  ∀ (c : LineChar) (s t : State) (first kind high : Byte) (payload : List Byte) (bad : Bool), s.receiving = true → s.olk.hold = none →
    t = s.withOlk { s.olk with shift := none } →
    s.olk.asm = .check (first :: kind :: payload) (some high) bad →
    (9 ≤ first.toNat / 16 → exec (.characterReceived c) s = .next (t.withOlk { t.olk with asm := .hunt })) ∧
    (first.toNat / 16 ≤ 8 →
      (∀ st, (if bad = true ∨ charError (s.olk.rxSettings) c = true ∨ crc16 (first :: kind :: payload) ≠ high ++ c.data ∨
              (∃ k, Kind.ofCode kind.toNat = some k ∧ payload.length ≠ k.payloadLength) then st = Status.malformed
            else if first.toNat / 16 ≠ 0 ∧ s.levelAt (first.toNat / 16) = 0 then st = .laneClosed
            else st = .laneFull ∧ 4 ≤ (s.queueAt (first.toNat / 16)).length) →
        exec (.characterReceived c) s = .next
          (if s.placeFree then
            pushReply ⟨first.toNat / 16, first.toNat % 16, kind.toNat, st, [], none⟩ (t.withOlk { t.olk with asm := .hunt })
          else t.withOlk { t.olk with asm := .waiting ⟨first.toNat / 16, first.toNat % 16, kind.toNat, st, [], none⟩ })) ∧
      (bad = false → charError (s.olk.rxSettings) c = false → crc16 (first :: kind :: payload) = high ++ c.data →
        (∀ k, Kind.ofCode kind.toNat = some k → payload.length = k.payloadLength) →
        (first.toNat / 16 = 0 ∨ s.levelAt (first.toNat / 16) ≠ 0) → (s.queueAt (first.toNat / 16)).length < 4 →
        exec (.characterReceived c) s = .next (setQueue (first.toNat / 16)
          (s.queueAt (first.toNat / 16) ++ [⟨first.toNat % 16, kind.toNat, payload⟩]) (t.withOlk { t.olk with asm := .hunt }))))

/-- The inter-byte timeout abandons a frame in LENGTH, BODY or CHECK: discarded before its lane byte or for lanes 9 to 15, else answered
MALFORMED with the kind byte received or 0; it does nothing in HUNT and while the assembler waits. A waiting answer takes a free place, the
assembler returns to HUNT and takes the byte that was held: a marked byte or one other than 0xA5 is discarded, an unmarked 0xA5 begins a
frame; without a free place it goes on waiting.
That a timeout not due changes nothing is the model's choice: notes/assumptions/3. -/
def Obligations.LinkAnswersOrWaits : Prop :=
  (∀ s : State, s.supply = true →
    (s.olk.asm = .hunt → exec .interByteTimeout s = .next s) ∧
    (∀ r, s.olk.asm = .waiting r → exec .interByteTimeout s = .next s) ∧
    (s.olk.asm = .length ∨ (∃ n bad, s.olk.asm = .body n [] bad) → exec .interByteTimeout s = .next (s.withOlk { s.olk with asm := .hunt })) ∧
    ∀ first rest, ((∃ n bad, s.olk.asm = .body n (first :: rest) bad) ∨ (∃ high bad, s.olk.asm = .check (first :: rest) high bad)) →
      (9 ≤ first.toNat / 16 → exec .interByteTimeout s = .next (s.withOlk { s.olk with asm := .hunt })) ∧
      (first.toNat / 16 ≤ 8 → ∀ echo, (rest = [] ∧ echo = 0 ∨ ∃ k more, rest = k :: more ∧ echo = k.toNat) →
        exec .interByteTimeout s = .next
          (if s.placeFree then pushReply ⟨first.toNat / 16, first.toNat % 16, echo, .malformed, [], none⟩ (s.withOlk { s.olk with asm := .hunt })
          else s.withOlk { s.olk with asm := .waiting ⟨first.toNat / 16, first.toNat % 16, echo, .malformed, [], none⟩ }))) ∧
  (∀ (s : State) (r : Reply), s.supply = true → s.olk.asm = .waiting r →
    (s.placeFree = false → exec .linkAnswerPlaced s = .next s) ∧
    (s.placeFree = true →
      (s.olk.hold = none → exec .linkAnswerPlaced s = .next (pushReply r (s.withOlk { s.olk with asm := .hunt }))) ∧
      ∀ h, s.olk.hold = some h →
        exec .linkAnswerPlaced s = .next (pushReply r (s.withOlk
          { s.olk with hold := none, asm := if h.data = 0xA5 ∧ h.error = false ∧ h.overrun = false then .length else .hunt }))))

/-- SET LINK answers OK with the settings given, which its reply carries; a parity above 2 or a stop-bit count other than 1 or 2 is
OUT_OF_RANGE; the settings themselves stay as they are. When the first reply has been sent its place frees, the settings it carries take
effect, a character already begun keeps the settings of its start bit, and the next reply starts at the new ones; nothing outside the link
changes. A character is sent as a start bit, the data least significant first, the parity bit that makes the count of ones as set, and the
stop bits. How the transmitter's bytes and the receive shift register are held is the model's choice: notes/assumptions/23 and 24. -/
def Obligations.LinkSettingsFollowReply : Prop :=
  (∀ (lane tag divisor parity stopBits : Nat) (s g : State), taken (.setLink lane tag divisor parity stopBits) s = some g →
    (∀ p : Parity, p.code = parity → stopBits = 1 ∨ stopBits = 2 →
      exec (.setLink lane tag divisor parity stopBits) s =
        .next (finish ⟨.ok, fieldBytes [(1, divisor), (1, parity), (1, stopBits)], some ⟨divisor, p, stopBits⟩⟩ g)) ∧
    (2 < parity ∨ stopBits ≠ 1 ∧ stopBits ≠ 2 →
      exec (.setLink lane tag divisor parity stopBits) s = .next (finish (Answer.bare .outOfRange) g))) ∧
  (∀ (s : State) (r : Reply) (rest : List Reply), s.supply = true → s.olk.replies = r :: rest →
    ∃ tx, exec .replySent s = .next ((s.withEnv
        { s.env with starts := if r.settings.isSome then s.env.starts.tail else s.env.starts }).withOlk { s.olk with
        replies := rest
        tx := tx
        settings := r.settings.getD s.olk.settings
        shift := if r.settings.isSome = true ∧ s.env.starts.headD false = true ∧ s.olk.breakHeld = false then
            some (s.olk.shift.getD s.olk.settings)
          else s.olk.shift }) ∧
      (rest = [] → tx = ⟨none, none, 0⟩) ∧
      ∀ n more, rest = n :: more → tx = ⟨n.frame[0]?.map (r.settings.getD s.olk.settings).char, n.frame[1]?, 2⟩) ∧
  (∀ (l : LinkSettings) (b : Byte), ∃ parity, (l.char b).bits =
      false :: (List.range 8).map b.getLsbD ++ parity ++ List.replicate l.stopBits true ∧
    (l.parity = .none → parity = []) ∧
    (l.parity = .even → parity.length = 1 ∧ ((List.range 8).map b.getLsbD ++ parity).count true % 2 = 0) ∧
    (l.parity = .odd → parity.length = 1 ∧ ((List.range 8).map b.getLsbD ++ parity).count true % 2 = 1))

/-- A link break empties the link's registers and buffers, the reply queue and the lane queues, clears the notes and voids every quote that is
not ISSUING: its tender leaves the reserved amount, its shadow slot joins the free pool, and the review counter restarts at 0 to 7 when it
carried the tag; it is taken once until the wire returns high, which it then does. That the transmitter's shift register keeps its
character follows from the transmitter as the model holds it: notes/assumptions/24. -/
def Obligations.LinkBreakResets : Prop :=
  ∀ s : State, s.supply = true →
    (s.olk.breakHeld = true → exec .linkBreak s = .next s) ∧
    (s.olk.breakHeld = false → s.floatLaw →
      ∃ t, exec .linkBreak s = .next t ∧
        t.olk = { s.olk with
          shift := none, hold := none, asm := .hunt, replies := [], tx := ⟨s.olk.tx.shift, none, 0⟩, breakHeld := true } ∧
        t.serving = s.serving.map (fun v => { v with placeHeld := false, cause := some .none }) ∧
        (∀ k, t.queueAt k = []) ∧ (∀ k, t.noteAt k = .none) ∧ t.lqa.levels = s.lqa.levels ∧ t.lqa.pointers = s.lqa.pointers ∧
        (∀ k ∈ counterLanes, t.quoteAt k = (s.quoteAt k).filter fun q => decide (q.state = .issuing)) ∧
        t.flt = { s.flt with reserved := t.acceptedSum } ∧ t.ast.slots = s.ast.slots ∧
        t.ast.free.Perm (s.ast.free ++ counterLanes.filterMap fun k =>
          ((s.quoteAt k).filter fun q => decide (q.state ≠ .issuing)).map (·.shadow)) ∧
        ((∃ k ∈ counterLanes, ∃ q, s.quoteAt k = some q ∧ q.state ≠ .issuing ∧ q.review = true) →
          ∃ v, v ≤ 7 ∧ t.qtb.review = .counting v) ∧
        ((∀ k ∈ counterLanes, ∀ q, s.quoteAt k = some q → q.state ≠ .issuing → q.review = false) → t.qtb.review = s.qtb.review) ∧
        t.qtb.period = s.qtb.period ∧ t.qtb.threshold = s.qtb.threshold ∧
        t.dir = s.dir ∧ t.zks = s.zks ∧ t.tcu = s.tcu ∧ t.ttb = s.ttb ∧ t.clk = s.clk ∧ t.fmn = s.fmn ∧ t.tamper = s.tamper ∧
        t.supply = s.supply ∧ t.startUp = s.startUp ∧ t.pending = s.pending ∧ t.env = s.env) ∧
    exec .receiveWireReturnsHigh s = .next (s.withOlk { s.olk with breakHeld := false })

/-! ### Records and the directory -/

/-- QUERY of a meter whose record is good replies with its fields read in the present month and what the other blocks say of it; a meter
not found is NOT_FOUND; nothing else changes. A record whose check code does not agree has its meter marked quarantined in one retained
write, raises RECORD_CHECK and is answered QUARANTINED with the state as stored; when that write fails the meter stays unmarked, STORE_WRITE
is raised besides, in whichever order, and the answer is the same. A meter already marked is answered so without a further fault. Which of
the two faults comes first is a free value: notes/assumptions/8. That no command makes such a record: notes/assumptions/35. -/
def Obligations.QueryReports : Prop :=
  (∀ (lane tag meter : Nat) (s g : State), taken (.query lane tag meter) s = some g →
    (g.dir.lookup meter = none → exec (.query lane tag meter) s = .next (finish (Answer.bare .notFound) g)) ∧
    ∀ (e : Entry) (r : Record), g.dir.lookup meter = some e → e.quarantined = false → g.record e.slot = r → r.intact = true →
      ∃ payload, exec (.query lane tag meter) s = .next (finish (Answer.ok payload) g) ∧ payload.length = 36 ∧
        payload.take 21 = fieldBytes [(5, meter), (1, r.state.code),
          (1, bitsNat [r.eligible,
            r.eligible && !(r.taken && decide (g.clk.month ≤ r.stamp)) && (g.planAt r.plan).any fun p => decide (0 < p.free),
            r.lastTid.isSome, r.issue.isSome, r.fixed && decide (g.clk.month ≤ r.stamp), r.taken && decide (g.clk.month ≤ r.stamp), false]),
          (1, r.plan), (1, r.zone), (1, r.revision), (1, ((g.zoneAt r.zone).resolve r.revision).code),
          (2, if r.stamp < g.clk.month then 0 else r.units), (4, r.arrears), (1, r.rate), (3, r.carry)] ∧
        (∀ n, r.lastTid = some n → (payload.drop 21).take 3 = beBytes 3 n) ∧
        (∀ i, r.issue = some i → (payload.drop 24).take 10 = fieldBytes [(3, i.firstTid), (1, i.count), (2, i.credit), (2, i.free),
          (1, (i.change.map (·.fromRev)).getD 0xFF), (1, (i.change.map (·.toRev)).getD 0xFF)]) ∧
        (r.issue.bind (·.change) = none → (payload.drop 32).take 2 = [0xFF, 0xFF]) ∧
        (g.quoteLane meter = none → payload.drop 34 = [0, 0]) ∧
        ∀ k q, g.quoteLane meter = some k → g.quoteAt k = some q →
          (q.state = .opened → payload.drop 34 = beBytes 1 k ++ [1]) ∧ (q.state = .held → payload.drop 34 = beBytes 1 k ++ [2])) ∧
  (∀ (lane tag meter : Nat) (s g u : State) (e : Entry), taken (.query lane tag meter) s = some g → g.dir.lookup meter = some e →
    (e.quarantined = true →
      exec (.query lane tag meter) s =
        .next (finish ⟨.quarantined, fieldBytes [(5, meter), (1, (g.record e.slot).state.code), (1, 1)], none⟩ g)) ∧
    (e.quarantined = false → (g.record e.slot).intact = false → drawWrite g = (false, u) →
      exec (.query lane tag meter) s =
        .next (finish ⟨.quarantined, fieldBytes [(5, meter), (1, (g.record e.slot).state.code), (1, 1)], none⟩
          (raise .recordCheck (u.withDir (u.dir.mark meter true))))) ∧
    (e.quarantined = false → (g.record e.slot).intact = false →
      exec (.query lane tag meter) s = .next
        (finish ⟨.quarantined, fieldBytes [(5, meter), (1, (g.record e.slot).state.code), (1, 1)], none⟩ (quarantine meter g)))) ∧
  ∀ (meter : Nat) (s u : State),
    (drawWrite s = (false, u) → quarantine meter s = raise .recordCheck (u.withDir (u.dir.mark meter true))) ∧
    (drawWrite s = (true, u) → ∃ a b, (a = FaultKind.recordCheck ∧ b = .storeWrite ∨ a = .storeWrite ∧ b = .recordCheck) ∧
      quarantine meter s = raise b (raise a (u.withFreeReads (u.freeReads + 1))))

/-- LIST replies the first 8 entries at or above its start in the directory's view, each with its record's state as stored and its
quarantined flag, and whether more follow; nothing else changes. -/
def Obligations.ListReports : Prop :=
  ∀ (lane tag start : Nat) (s g : State), taken (.list lane tag start) s = some g →
    ∀ found, found = g.dir.listing.filter (fun e => decide (start ≤ e.meter)) →
      exec (.list lane tag start) s = .next (finish (Answer.ok
        (fieldBytes [(1, min 8 found.length), (1, if 8 < found.length then 1 else 0)] ++
          (found.take 8).flatMap fun e =>
            fieldBytes [(5, e.meter), (1, (g.record e.slot).state.code), (1, if e.quarantined then 1 else 0)])) g)

/-- ENROL of a new meter in an ACCEPT zone with a plan writes its fresh record into a slot of the free pool and starts an ENROLLING change
at the position of its number; its refusals come in the order OUT_OF_RANGE, DUPLICATE, DIRECTORY_FULL, NO_ZONE or ZONE_EMBARGO, NO_PLAN.
RETIRE starts a RETIRING change for a meter without a quote whose record is good and owes nothing, or with the write-off flag given, and
replies the arrears written off or, for a quarantined meter or a bad record, that they are unknown; its refusals come in the order
OUT_OF_RANGE, NOT_FOUND, METER_BUSY, QUARANTINED, DEBT_OPEN. Each replies at once, before any step of its change. A write of either that
fails raises STORE_WRITE, is answered STORE_FAULT and starts no change, with a slot taken back in the pool.
The reply's bytes for arrears that are unknown are free values: notes/assumptions/7. -/
def Obligations.EnrolAndRetireStart : Prop :=
  (∀ (lane tag meter plan revision eligible arrears rate zone slot : Nat) (s g t u v : State) (bad : Prop) (new : Record),
    taken (.enrol lane tag meter plan revision eligible arrears rate) s = some g →
    (bad ↔ meter = 0 ∨ 999999999999 < meter ∨ 15 < plan ∨ 15 < revision ∨ 1 < eligible ∨ 10000000 < arrears ∨ 50 < rate) →
    new = Record.sealed ⟨meter, .active, zone, plan, revision, decide (eligible = 1), g.clk.month, 0, false, false, arrears, rate, 0, none, none, 0⟩ →
    (bad → exec (.enrol lane tag meter plan revision eligible arrears rate) s = .next (finish (Answer.bare .outOfRange) g)) ∧
    (¬ bad →
      (g.dir.lookup meter ≠ none →
        exec (.enrol lane tag meter plan revision eligible arrears rate) s = .next (finish (Answer.bare .duplicate) g)) ∧
      (g.dir.lookup meter = none → 4000 ≤ g.dir.count →
        exec (.enrol lane tag meter plan revision eligible arrears rate) s = .next (finish (Answer.bare .directoryFull) g)) ∧
      (g.dir.lookup meter = none → g.dir.count < 4000 →
        (g.zoneSearch meter = .none →
          exec (.enrol lane tag meter plan revision eligible arrears rate) s = .next (finish (Answer.bare .noZone) g)) ∧
        (g.zoneSearch meter = .embargo →
          exec (.enrol lane tag meter plan revision eligible arrears rate) s = .next (finish (Answer.bare .zoneEmbargo) g)) ∧
        (g.zoneSearch meter = .zone zone →
          (g.planAt plan = none →
            exec (.enrol lane tag meter plan revision eligible arrears rate) s = .next (finish (Answer.bare .noPlan) g)) ∧
          (g.planAt plan ≠ none →
            (g.ast.free ≠ [] → drawWrite g = (true, u) →
              exec (.enrol lane tag meter plan revision eligible arrears rate) s =
                .next (finish (Answer.bare .storeFault) (raise .storeWrite u))) ∧
            (takeSlot g = some (slot, t) → drawWrite t = (false, u) →
              (drawWrite (writeSlot slot new u) = (true, v) →
                exec (.enrol lane tag meter plan revision eligible arrears rate) s =
                  .next (finish (Answer.bare .storeFault) (freeSlot slot (raise .storeWrite v)))) ∧
              (drawWrite (writeSlot slot new u) = (false, v) →
                exec (.enrol lane tag meter plan revision eligible arrears rate) s =
                  .next (finish (Answer.ok (fieldBytes [(5, meter), (1, zone)]))
                    (v.withDir { v.dir with change := some (.enrolling meter slot false
                      (meters v.dir.view |>.filter fun m => decide (m < meter)).length v.dir.entries.length) }))))))))) ∧
  (∀ (lane tag meter writeOff : Nat) (s g u : State), taken (.retire lane tag meter writeOff) s = some g →
    (1 < writeOff → exec (.retire lane tag meter writeOff) s = .next (finish (Answer.bare .outOfRange) g)) ∧
    (writeOff ≤ 1 → g.dir.lookup meter = none → exec (.retire lane tag meter writeOff) s = .next (finish (Answer.bare .notFound) g)) ∧
    ∀ (e : Entry), writeOff ≤ 1 → g.dir.lookup meter = some e →
      (g.quoteLane meter ≠ none → exec (.retire lane tag meter writeOff) s = .next (finish (Answer.bare .meterBusy) g)) ∧
      (g.quoteLane meter = none →
        (e.quarantined = true → writeOff = 0 → exec (.retire lane tag meter writeOff) s = .next (finish (Answer.bare .quarantined) g)) ∧
        (e.quarantined = true → writeOff = 1 → drawWrite g = (false, u) →
          ∃ open4, open4.length = 4 ∧ exec (.retire lane tag meter writeOff) s =
            .next (finish (Answer.ok (open4 ++ [1]))
              (u.withDir { u.dir with change := some (.retiring e.meter e.slot (u.dir.index e.meter)) }))) ∧
        (e.quarantined = false → (g.record e.slot).intact = false →
          (writeOff = 0 → exec (.retire lane tag meter writeOff) s = .next (finish (Answer.bare .quarantined) (quarantine meter g))) ∧
          (writeOff = 1 →
            (drawWrite (quarantine meter g) = (false, u) →
              ∃ open4, open4.length = 4 ∧ exec (.retire lane tag meter writeOff) s =
                .next (finish (Answer.ok (open4 ++ [1]))
                  (u.withDir { u.dir with change := some (.retiring e.meter e.slot (u.dir.index e.meter)) }))) ∧
            (drawWrite (quarantine meter g) = (true, u) →
              exec (.retire lane tag meter writeOff) s = .next (finish (Answer.bare .storeFault) (raise .storeWrite u))))) ∧
        (e.quarantined = false → (g.record e.slot).intact = true →
          (0 < (g.record e.slot).arrears → writeOff = 0 →
            exec (.retire lane tag meter writeOff) s = .next (finish (Answer.bare .debtOpen) g)) ∧
          ((g.record e.slot).arrears = 0 ∨ writeOff = 1 → drawWrite g = (false, u) →
            exec (.retire lane tag meter writeOff) s =
              .next (finish (Answer.ok (fieldBytes [(4, (g.record e.slot).arrears), (1, 0)]))
                (u.withDir { u.dir with change := some (.retiring e.meter e.slot (u.dir.index e.meter)) })))) ∧
        (e.quarantined = true ∧ writeOff = 1 ∨
            e.quarantined = false ∧ (g.record e.slot).intact = true ∧ ((g.record e.slot).arrears = 0 ∨ writeOff = 1) →
          drawWrite g = (true, u) →
          exec (.retire lane tag meter writeOff) s = .next (finish (Answer.bare .storeFault) (raise .storeWrite u)))))

/-- AMEND writes the rolled record with the changes it names into a fresh slot, swaps it in and frees the old one; arrears are clamped to
0 to 10,000,000 and the reply says so. Its refusals come in the order NOT_FOUND, QUARANTINED, METER_BUSY, OUT_OF_RANGE, NO_PLAN; a failed
write of the version or of the swap is STORE_FAULT with STORE_WRITE raised, the slot back in the pool and the directory as it was. -/
def Obligations.AmendWritesVersion : Prop :=
  ∀ (lane tag meter slot : Nat) (f : AmendFields) (s g t u v : State), taken (.amend lane tag meter f) s = some g →
    (g.dir.lookup meter = none → exec (.amend lane tag meter f) s = .next (finish (Answer.bare .notFound) g)) ∧
    ∀ (e : Entry) (r : Record), g.dir.lookup meter = some e → g.record e.slot = r →
      (e.quarantined = true → exec (.amend lane tag meter f) s = .next (finish (Answer.bare .quarantined) g)) ∧
      (e.quarantined = false → r.intact = false →
        exec (.amend lane tag meter f) s = .next (finish (Answer.bare .quarantined) (quarantine meter g))) ∧
      (e.quarantined = false → r.intact = true →
        (g.quoteLane meter ≠ none → exec (.amend lane tag meter f) s = .next (finish (Answer.bare .meterBusy) g)) ∧
        ∀ (bad : Prop) (sum : Int) (new : Record), g.quoteLane meter = none →
          (bad ↔ flag f.present 0 = true ∧ 15 < f.plan ∨ flag f.present 2 = true ∧ 50 < f.rate ∨ flag f.present 3 = true ∧ 1 < f.eligible ∨
            flag f.present 4 = true ∧ 15 < f.revision) →
          sum = (r.arrears : Int) + (if flag f.present 1 then signed32 f.arrears else 0) →
          new = {
            r.rolled g.clk.month with
            plan := if flag f.present 0 then f.plan else r.plan
            arrears := if flag f.present 1 then (if sum < 0 then 0 else if 10000000 < sum then 10000000 else sum.toNat) else r.arrears
            rate := if flag f.present 2 then f.rate else r.rate
            eligible := if flag f.present 3 then decide (f.eligible = 1) else r.eligible
            revision := if flag f.present 4 then f.revision else r.revision } →
          (bad → exec (.amend lane tag meter f) s = .next (finish (Answer.bare .outOfRange) g)) ∧
          (¬ bad → flag f.present 0 = true → g.planAt f.plan = none →
            exec (.amend lane tag meter f) s = .next (finish (Answer.bare .noPlan) g)) ∧
          (¬ bad → (flag f.present 0 = true → g.planAt f.plan ≠ none) →
            (g.ast.free ≠ [] → drawWrite g = (true, u) →
              exec (.amend lane tag meter f) s = .next (finish (Answer.bare .storeFault) (raise .storeWrite u))) ∧
            (takeSlot g = some (slot, t) → drawWrite t = (false, u) →
              (drawWrite (writeSlot slot new.sealed u) = (true, v) →
                exec (.amend lane tag meter f) s = .next (finish (Answer.bare .storeFault) (freeSlot slot (raise .storeWrite v)))) ∧
              (drawWrite (writeSlot slot new.sealed u) = (false, v) →
                exec (.amend lane tag meter f) s = .next (finish
                  (Answer.ok (fieldBytes [(4, new.arrears), (1, if flag f.present 1 ∧ (sum < 0 ∨ 10000000 < sum) then 1 else 0)]))
                  (freeSlot e.slot (v.withDir (v.dir.swap e.meter slot))))))))

/-- RESTORE writes the fields it gives with a last TID 64 minutes ahead of the clock, swaps the version in, frees the old slot and clears
the quarantine, whatever the old record holds. Its refusals come in the order OUT_OF_RANGE, NOT_FOUND, METER_BUSY; a failed write of the
version or of the swap is STORE_FAULT with STORE_WRITE raised, the slot back in the pool and the directory as it was. That the meter's own
range is among those tested is read from R1 by inference: notes/assumptions/15. -/
def Obligations.RestoreWritesVersion : Prop :=
  ∀ (lane tag meter slot last : Nat) (f : RestoreFields) (s g t u v : State) (bad : Prop) (issue : Option LastIssue) (new : Record),
    taken (.restore lane tag meter f) s = some g → last = min (g.clk.minute + 64) 16777215 →
    (bad ↔ meter = 0 ∨ 999999999999 < meter ∨ 1 < f.state ∨ 15 < f.zone ∨ 15 < f.plan ∨ 15 < f.revision ∨ 4095 < f.stamp ∨
      g.clk.month < f.stamp ∨ 60000 < f.units ∨ 10000000 < f.arrears ∨ 50 < f.rate ∨ 99999 < f.carry ∨
      flag f.flags 3 = true ∧ (16777215 < f.firstTid ∨ f.count = 0 ∨ 6 < f.count ∨ 60000 < f.credit ∨ 2000 < f.free ∨
        flag f.flags 4 = true ∧ (15 < f.fromRev ∨ 15 < f.toRev) ∨
        f.count ≠ (if flag f.flags 4 then 4 else 0) + (if 0 < f.credit then 1 else 0) + (if 0 < f.free then 1 else 0) ∨
        last < f.firstTid + f.count - 1)) →
    issue = (if flag f.flags 3 then
        some ⟨f.firstTid, f.count, f.credit, f.free, if flag f.flags 4 then some ⟨f.fromRev, f.toRev⟩ else none⟩ else none) →
    new = ⟨meter, if f.state = 0 then .active else .suspended, f.zone, f.plan, f.revision, flag f.flags 0, f.stamp, f.units, flag f.flags 1,
      flag f.flags 2, f.arrears, f.rate, f.carry, some last, issue, 0⟩ →
    (bad → exec (.restore lane tag meter f) s = .next (finish (Answer.bare .outOfRange) g)) ∧
    (¬ bad →
      (g.dir.lookup meter = none → exec (.restore lane tag meter f) s = .next (finish (Answer.bare .notFound) g)) ∧
      ∀ e : Entry, g.dir.lookup meter = some e →
        (g.quoteLane meter ≠ none → exec (.restore lane tag meter f) s = .next (finish (Answer.bare .meterBusy) g)) ∧
        (g.quoteLane meter = none →
          (g.ast.free ≠ [] → drawWrite g = (true, u) →
            exec (.restore lane tag meter f) s = .next (finish (Answer.bare .storeFault) (raise .storeWrite u))) ∧
          (takeSlot g = some (slot, t) → drawWrite t = (false, u) →
            (drawWrite (writeSlot slot new.sealed u) = (true, v) →
              exec (.restore lane tag meter f) s = .next (finish (Answer.bare .storeFault) (freeSlot slot (raise .storeWrite v)))) ∧
            (drawWrite (writeSlot slot new.sealed u) = (false, v) →
              exec (.restore lane tag meter f) s = .next (finish (Answer.ok (beBytes 3 last))
                (freeSlot e.slot (v.withDir ((v.dir.swap e.meter slot).mark e.meter false))))))))

/-- SUSPEND of an ACTIVE record writes it SUSPENDED, swaps the version in and then voids the meter's quote, if one is OPEN or HELD, with
note VOIDED, replying its lane; a record already SUSPENDED is answered OK and nothing is written. It is refused NOT_FOUND, then
QUARANTINED; a failed write of the version or of the swap is STORE_FAULT with STORE_WRITE raised, the slot back in the pool, and the
directory and the quote as they were. -/
def Obligations.SuspendWritesVersion : Prop :=
  ∀ (lane tag meter slot : Nat) (s g t u v : State), taken (.suspend lane tag meter) s = some g →
    (g.dir.lookup meter = none → exec (.suspend lane tag meter) s = .next (finish (Answer.bare .notFound) g)) ∧
    ∀ (e : Entry) (r new : Record), g.dir.lookup meter = some e → g.record e.slot = r →
      new = Record.sealed { r.rolled g.clk.month with state := .suspended } →
      (e.quarantined = true → exec (.suspend lane tag meter) s = .next (finish (Answer.bare .quarantined) g)) ∧
      (e.quarantined = false → r.intact = false →
        exec (.suspend lane tag meter) s = .next (finish (Answer.bare .quarantined) (quarantine meter g))) ∧
      (e.quarantined = false → r.intact = true →
        (r.state = .suspended → exec (.suspend lane tag meter) s = .next (finish (Answer.ok [0]) g)) ∧
        (r.state = .active →
          (g.ast.free ≠ [] → drawWrite g = (true, u) →
            exec (.suspend lane tag meter) s = .next (finish (Answer.bare .storeFault) (raise .storeWrite u))) ∧
          (takeSlot g = some (slot, t) → drawWrite t = (false, u) →
            (drawWrite (writeSlot slot new u) = (true, v) →
              exec (.suspend lane tag meter) s = .next (finish (Answer.bare .storeFault) (freeSlot slot (raise .storeWrite v)))) ∧
            (drawWrite (writeSlot slot new u) = (false, v) →
              (g.quoteLane meter = none →
                exec (.suspend lane tag meter) s =
                  .next (finish (Answer.ok [0]) (freeSlot e.slot (v.withDir (v.dir.swap e.meter slot))))) ∧
              ∀ k q, g.quoteLane meter = some k → g.quoteAt k = some q → q.state ≠ .issuing →
                exec (.suspend lane tag meter) s = .next (finish (Answer.ok (beBytes 1 k))
                  (setNote k .voided (voidQuote k (freeSlot e.slot (v.withDir (v.dir.swap e.meter slot))))))))))

/-- RESUME: NOT_FOUND, then QUARANTINED; a record already ACTIVE is answered OK and nothing is written; a SUSPENDED record is written
ACTIVE, rolled, and swapped in, and the old slot freed. A failed write of the version or of the swap is STORE_FAULT with STORE_WRITE raised,
the slot back in the pool and the directory as it was. -/
def Obligations.ResumeWritesVersion : Prop :=
  ∀ (lane tag meter slot : Nat) (s g t u v : State), taken (.resume lane tag meter) s = some g →
    (g.dir.lookup meter = none → exec (.resume lane tag meter) s = .next (finish (Answer.bare .notFound) g)) ∧
    ∀ (e : Entry) (r new : Record), g.dir.lookup meter = some e → g.record e.slot = r →
      new = Record.sealed { r.rolled g.clk.month with state := .active } →
      (e.quarantined = true → exec (.resume lane tag meter) s = .next (finish (Answer.bare .quarantined) g)) ∧
      (e.quarantined = false → r.intact = false →
        exec (.resume lane tag meter) s = .next (finish (Answer.bare .quarantined) (quarantine meter g))) ∧
      (e.quarantined = false → r.intact = true →
        (r.state = .active → exec (.resume lane tag meter) s = .next (finish (Answer.ok []) g)) ∧
        (r.state = .suspended →
          (g.ast.free ≠ [] → drawWrite g = (true, u) →
            exec (.resume lane tag meter) s = .next (finish (Answer.bare .storeFault) (raise .storeWrite u))) ∧
          (takeSlot g = some (slot, t) → drawWrite t = (false, u) →
            (drawWrite (writeSlot slot new u) = (true, v) →
              exec (.resume lane tag meter) s = .next (finish (Answer.bare .storeFault) (freeSlot slot (raise .storeWrite v)))) ∧
            (drawWrite (writeSlot slot new u) = (false, v) →
              exec (.resume lane tag meter) s =
                .next (finish (Answer.ok []) (freeSlot e.slot (v.withDir (v.dir.swap e.meter slot))))))))

/-- The four steps of a pending change, each one retained write: an ENROLLING change moves an entry up and lowers its cursor, then places
its entry; a RETIRING change moves an entry down and raises its cursor, then shortens the list and frees its slot. A failed write raises
STORE_WRITE and leaves the change as it was. No step of an ordered directory changes what a lookup finds or what LIST walks. -/
def Obligations.DirectorySteps : Prop :=
  (∀ s u : State, s.supply = true → s.startUp = .done →
    (drawWrite s = (false, u) →
      (∀ m slot q p c e, s.dir.change = some (.enrolling m slot q p c) → p < c → c ≤ s.dir.entries.length →
        s.dir.entries[c - 1]? = some e →
        exec .enrolMoveStep s = .next (u.withDir
          ⟨if c < s.dir.entries.length then s.dir.entries.set c e else s.dir.entries ++ [e], some (.enrolling m slot q p (c - 1))⟩)) ∧
      (∀ m slot q c, s.dir.change = some (.enrolling m slot q c c) → c ≤ s.dir.entries.length →
        exec .placingStep s = .next (u.withDir
          ⟨if c < s.dir.entries.length then s.dir.entries.set c ⟨m, slot, q⟩ else s.dir.entries ++ [⟨m, slot, q⟩], none⟩)) ∧
      (∀ m slot c e, s.dir.change = some (.retiring m slot c) → s.dir.entries[c + 1]? = some e →
        exec .retireMoveStep s = .next (u.withDir ⟨s.dir.entries.set c e, some (.retiring m slot (c + 1))⟩)) ∧
      (∀ m slot c, s.dir.change = some (.retiring m slot c) → c + 1 = s.dir.entries.length →
        exec .closingStep s = .next (freeSlot slot (u.withDir ⟨s.dir.entries.take c, none⟩)))) ∧
    (drawWrite s = (true, u) →
      (s.dir.nextStep = some .enrolMove → exec .enrolMoveStep s = .next (raise .storeWrite u)) ∧
      (s.dir.nextStep = some .placing → exec .placingStep s = .next (raise .storeWrite u)) ∧
      (s.dir.nextStep = some .retireMove → exec .retireMoveStep s = .next (raise .storeWrite u)) ∧
      (s.dir.nextStep = some .closing → exec .closingStep s = .next (raise .storeWrite u)))) ∧
  (∀ d : Dir, d.ordered → d.change.isSome = true → (∀ meter, d.stepped.lookup meter = d.lookup meter) ∧ d.stepped.listing = d.listing)

/-! ### Zones, keys and the cipher -/

/-- The zone search stops at the first entry that is not UNUSED and matches under its mask, and that entry decides. -/
def Obligations.ZoneSearchFirstMatch : Prop :=
  ∀ (s : State) (meter : Nat),
    (∀ z, (s.zoneSearch meter = .zone z ↔ z < 16 ∧ (s.zoneAt z).action = .accept ∧
      BitVec.ofNat 40 meter &&& (s.zoneAt z).mask = (s.zoneAt z).value &&& (s.zoneAt z).mask ∧
      ∀ y, y < z → (s.zoneAt y).action = .unused ∨
        BitVec.ofNat 40 meter &&& (s.zoneAt y).mask ≠ (s.zoneAt y).value &&& (s.zoneAt y).mask)) ∧
    (s.zoneSearch meter = .embargo ↔ ∃ z, z < 16 ∧ (s.zoneAt z).action = .embargo ∧
      BitVec.ofNat 40 meter &&& (s.zoneAt z).mask = (s.zoneAt z).value &&& (s.zoneAt z).mask ∧
      ∀ y, y < z → (s.zoneAt y).action = .unused ∨
        BitVec.ofNat 40 meter &&& (s.zoneAt y).mask ≠ (s.zoneAt y).value &&& (s.zoneAt y).mask) ∧
    (s.zoneSearch meter = .none ↔ ∀ y, y < 16 → (s.zoneAt y).action = .unused ∨
      BitVec.ofNat 40 meter &&& (s.zoneAt y).mask ≠ (s.zoneAt y).value &&& (s.zoneAt y).mask)

/-- ZONE SET writes the entry it gives: with a keys part, the revisions and slots given; without one, those the entry held; with UNUSED,
none. The reply carries the entry as written, and no other entry, slot or record changes. -/
def Obligations.ZoneSetWrites : Prop :=
  ∀ (lane tag zone : Nat) (f : ZoneFields) (s g u : State) (a : ZoneAction) (new : Zone),
    taken (.zoneSet lane tag zone f) s = some g → g.fmn.configLock = false → zone ≤ 15 → f.group ≤ 15 → a.code = f.action → f.keys ≤ 2 →
    (1 ≤ f.keys → a ≠ .unused ∧ f.currentRev ≤ 15 ∧ 2 ≤ f.currentSlot ∧ f.currentSlot ≤ 15 ∧
      (g.slotAt f.currentSlot).isLoaded = true ∧ ∀ z, z < 16 → z ≠ zone → (g.zoneAt z).names f.currentSlot = false) →
    (f.keys = 2 → f.previousRev ≤ 15 ∧ 2 ≤ f.previousSlot ∧ f.previousSlot ≤ 15 ∧ f.previousRev ≠ f.currentRev ∧
      f.previousSlot ≠ f.currentSlot ∧ (g.slotAt f.previousSlot).isLoaded = true ∧
      ∀ z, z < 16 → z ≠ zone → (g.zoneAt z).names f.previousSlot = false) →
    (f.keys = 0 → a ≠ .unused → (g.zoneAt zone).action ≠ .unused) → drawWrite g = (false, u) →
    new = ⟨a, BitVec.ofNat 40 f.value, BitVec.ofNat 40 f.mask, f.group,
      if a = .unused then none else if f.keys = 0 then (g.zoneAt zone).current else some ⟨f.currentRev, f.currentSlot⟩,
      if a = .unused then none else if f.keys = 0 then (g.zoneAt zone).previous
        else if f.keys = 1 then none else some ⟨f.previousRev, f.previousSlot⟩⟩ →
    exec (.zoneSet lane tag zone f) s = .next (finish
      (Answer.ok (fieldBytes [(1, f.action), (5, new.value.toNat), (5, new.mask.toNat), (1, f.group),
        (1, (if new.current.isSome then 1 else 0) + (if new.previous.isSome then 1 else 0)),
        (1, (new.current.map (·.rev)).getD 0xFF), (1, (new.current.map (·.slot)).getD 0xFF),
        (1, (new.previous.map (·.rev)).getD 0xFF), (1, (new.previous.map (·.slot)).getD 0xFF)]))
      (u.withZks { u.zks with zones := put u.zks.zones zone new }))

/-- KEY ROLL moves the current revision into the previous one and takes the next revision, mod 16, in the slot given; it replies both and
the slot released. A zone above 15 or a slot outside 2 to 15 is OUT_OF_RANGE, an UNUSED zone NO_ZONE, a slot in use SLOT_IN_USE, and one
not LOADED KEY_UNAVAILABLE. -/
def Obligations.KeyRollAdvances : Prop :=
  ∀ (lane tag zone slot : Nat) (s g u : State), taken (.keyRoll lane tag zone slot) s = some g → g.fmn.configLock = false →
    (15 < zone ∨ slot < 2 ∨ 15 < slot → exec (.keyRoll lane tag zone slot) s = .next (finish (Answer.bare .outOfRange) g)) ∧
    (zone ≤ 15 → 2 ≤ slot → slot ≤ 15 →
    ((g.zoneAt zone).action = .unused → exec (.keyRoll lane tag zone slot) s = .next (finish (Answer.bare .noZone) g)) ∧
    ∀ c, (g.zoneAt zone).action ≠ .unused → (g.zoneAt zone).current = some c →
      (g.slotInUse slot = true → exec (.keyRoll lane tag zone slot) s = .next (finish (Answer.bare .slotInUse) g)) ∧
      (g.slotInUse slot = false → (g.slotAt slot).isLoaded = false →
        exec (.keyRoll lane tag zone slot) s = .next (finish ⟨.keyUnavailable, fieldBytes [(1, 1), (1, slot)], none⟩ g)) ∧
      (g.slotInUse slot = false → (g.slotAt slot).isLoaded = true → drawWrite g = (false, u) →
        exec (.keyRoll lane tag zone slot) s = .next (finish
          (Answer.ok (fieldBytes [(1, (c.rev + 1) % 16), (1, c.rev), (1, ((g.zoneAt zone).previous.map (·.slot)).getD 0xFF)]))
          (u.withZks
            { u.zks with zones := put u.zks.zones zone { g.zoneAt zone with current := some ⟨(c.rev + 1) % 16, slot⟩, previous := some c } }))))

/-- KEY LOAD makes its slot LOADED with the key and its check value: slot 0 in clear at one cipher use, the others unwrapped under slot 0,
checked first, at three; a check value that does not agree is BAD_AUTHENTICATOR and leaves the slot as it was, and so does a failed write,
which is STORE_FAULT with STORE_WRITE raised. A slot above 15 is OUT_OF_RANGE, slot 0 LOADED or another slot in use SLOT_IN_USE, and a
FAILED cipher CIPHER_FAULT.
That a load ends an erasing write still owed is the model's choice: notes/assumptions/14. -/
def Obligations.KeyLoadStores : Prop :=
  ∀ (lane tag slot key check n : Nat) (s g u : State) (k : Block), taken (.keyLoad lane tag slot key check) s = some g →
    g.fmn.configLock = false →
    (15 < slot → exec (.keyLoad lane tag slot key check) s = .next (finish (Answer.bare .outOfRange) g)) ∧
    (slot ≤ 15 → slot = 0 ∧ (g.slotAt 0).isLoaded = true ∨ 2 ≤ slot ∧ g.slotInUse slot = true →
      exec (.keyLoad lane tag slot key check) s = .next (finish (Answer.bare .slotInUse) g)) ∧
    (slot ≤ 15 → ¬ (slot = 0 ∧ (g.slotAt 0).isLoaded = true ∨ 2 ≤ slot ∧ g.slotInUse slot = true) → g.tcu.passed = false →
      exec (.keyLoad lane tag slot key check) s = .next (finish (Answer.bare .cipherFault) g)) ∧
    (g.fmn.zeroisePending = false → slot ≤ 15 →
    (slot = 0 ∧ (g.slotAt 0).isLoaded = false ∧ n = 1 ∧ k = BitVec.ofNat 64 key ∨
      slot ≠ 0 ∧ (2 ≤ slot → g.slotInUse slot = false) ∧ n = 3 ∧ ∃ base, g.sound 0 base ∧ k = decipher base (BitVec.ofNat 64 key)) →
    g.calm n →
    ((checkValue k).toNat ≠ check →
      exec (.keyLoad lane tag slot key check) s = .next (finish (Answer.bare .badAuthenticator) (g.used n))) ∧
    ((checkValue k).toNat = check → drawWrite (g.used n) = (true, u) →
      exec (.keyLoad lane tag slot key check) s = .next (finish (Answer.bare .storeFault) (raise .storeWrite u))) ∧
    ((checkValue k).toNat = check → drawWrite (g.used n) = (false, u) →
      exec (.keyLoad lane tag slot key check) s = .next (finish (Answer.ok (fieldBytes [(1, slot), (3, check)]))
        (u.withZks
          { u.zks with slots := put u.zks.slots slot (.loaded k (checkValue k)), erasing := u.zks.erasing.filter (· != slot) }))))

/-- A slot whose check before use fails becomes ERASED in one retained write with a KEY_CHECK fault, and the use is refused; when the write
fails STORE_WRITE is raised besides, in whichever order (a free value: notes/assumptions/8), the slot reads ERASED all the same and the
write is owed, and each retry makes it or raises a further STORE_WRITE.
That a retry not due changes nothing is the model's choice: notes/assumptions/3. -/
def Obligations.FailedCheckErases : Prop :=
  ∀ (slot : Nat) (s u : State),
    (∀ k c, s.slotAt slot = .loaded k c → checkValue k ≠ c → s.calm 1 →
      (drawWrite (s.used 1) = (false, u) →
        checkSlot slot s = .no ⟨.keyUnavailable, fieldBytes [(1, 2), (1, slot)], none⟩
          (raise .keyCheck (u.withZks { u.zks with slots := put u.zks.slots slot .erased }))) ∧
      (drawWrite (s.used 1) = (true, u) →
        ∃ t a b, checkSlot slot s = .no ⟨.keyUnavailable, fieldBytes [(1, 2), (1, slot)], none⟩ t ∧ t.slotAt slot = .erased ∧
          (a = FaultKind.keyCheck ∧ b = .storeWrite ∨ a = .storeWrite ∧ b = .keyCheck) ∧
          t = raise b (raise a ((u.withZks { u.zks with erasing := slot :: u.zks.erasing }).withFreeReads (u.freeReads + 1))))) ∧
    (s.supply = true →
      (s.zks.erasing.contains slot = true → drawWrite s = (false, u) →
        exec (.keyEraseRetry slot) s = .next (u.withZks { u.zks with
          slots := put u.zks.slots slot .erased, erasing := u.zks.erasing.filter (· != slot) })) ∧
      (s.zks.erasing.contains slot = true → drawWrite s = (true, u) → exec (.keyEraseRetry slot) s = .next (raise .storeWrite u)) ∧
      (s.zks.erasing.contains slot = false → exec (.keyEraseRetry slot) s = .next s))

/-- Decipherment under a key undoes encipherment under it, and encipherment undoes decipherment, for every block and every key. -/
def Obligations.DecipherUndoesEncipher : Prop :=
  ∀ k b : Block, decipher k (encipher k b) = b ∧ encipher k (decipher k b) = b

/-! ### Tariffs and the credit computation -/

/-- LOAD PLAN writes the plan given, or an empty slot with the clear mark, into the staged bank, and disarms an armed bank in the same
write, saying so; the active bank is not touched. A plan index above 15, a block count outside 1 to 4, a field of a block used out of its
range, or bounds not strictly ascending is OUT_OF_RANGE. ARM PLANS sets the armed month to an effective month above the present one, or
clears it with the disarm mark, writing nothing when it was already absent; it replies the armed month and the generation and checks nothing
in the staged bank; another month or mark is OUT_OF_RANGE. Each completes so whenever it is taken with the configuration lock clear and its
write made. The bytes under a mark of absence are free values: notes/assumptions/7. -/
def Obligations.PlansStagedAndArmed : Prop :=
  (∀ (lane tag index clear : Nat) (f : PlanFields) (s g u : State), taken (.loadPlan lane tag index clear f) s = some g →
    g.fmn.configLock = false →
    (15 < index ∨ 1 < clear ∨ clear = 0 ∧ (f.blocks = 0 ∨ 4 < f.blocks ∨ 100000 < f.fixed ∨ 100000 < f.minimum ∨ f.ceiling = 0 ∨
        60000 < f.ceiling ∨ 2000 < f.free ∨ f.price1 = 0 ∨ 100000 < f.price1 ∨
        2 ≤ f.blocks ∧ (f.price2 = 0 ∨ 100000 < f.price2 ∨ f.bound1 = 0 ∨ 60000 < f.bound1) ∨
        3 ≤ f.blocks ∧ (f.price3 = 0 ∨ 100000 < f.price3 ∨ 60000 < f.bound2 ∨ f.bound2 ≤ f.bound1) ∨
        4 ≤ f.blocks ∧ (f.price4 = 0 ∨ 100000 < f.price4 ∨ 60000 < f.bound3 ∨ f.bound3 ≤ f.bound2)) →
      exec (.loadPlan lane tag index clear f) s = .next (finish (Answer.bare .outOfRange) g)) ∧
    (index ≤ 15 → clear = 1 → drawWrite g = (false, u) →
      exec (.loadPlan lane tag index clear f) s = .next (finish
        (Answer.ok (fieldBytes [(1, index), (1, 0), (1, if g.ttb.armed.isSome then 1 else 0)]))
        (u.withTtb { u.ttb with staged := put u.ttb.staged index none, armed := none }))) ∧
    (index ≤ 15 → clear = 0 → 1 ≤ f.blocks → f.blocks ≤ 4 → f.fixed ≤ 100000 → f.minimum ≤ 100000 → 1 ≤ f.ceiling → f.ceiling ≤ 60000 →
      f.free ≤ 2000 → 1 ≤ f.price1 → f.price1 ≤ 100000 →
      (2 ≤ f.blocks → 1 ≤ f.price2 ∧ f.price2 ≤ 100000 ∧ 1 ≤ f.bound1 ∧ f.bound1 ≤ 60000) →
      (3 ≤ f.blocks → 1 ≤ f.price3 ∧ f.price3 ≤ 100000 ∧ f.bound1 < f.bound2 ∧ f.bound2 ≤ 60000) →
      (4 ≤ f.blocks → 1 ≤ f.price4 ∧ f.price4 ≤ 100000 ∧ f.bound2 < f.bound3 ∧ f.bound3 ≤ 60000) →
      drawWrite g = (false, u) → ∀ p : Plan,
      p = ⟨f.fixed, f.minimum, f.ceiling, f.free,
        if f.blocks = 1 then [] else if f.blocks = 2 then [(f.bound1, f.price1)]
          else if f.blocks = 3 then [(f.bound1, f.price1), (f.bound2, f.price2)]
          else [(f.bound1, f.price1), (f.bound2, f.price2), (f.bound3, f.price3)],
        if f.blocks = 1 then f.price1 else if f.blocks = 2 then f.price2 else if f.blocks = 3 then f.price3 else f.price4⟩ →
      exec (.loadPlan lane tag index clear f) s = .next (finish
        (Answer.ok (fieldBytes [(1, index), (1, 1), (1, if g.ttb.armed.isSome then 1 else 0)]))
        (u.withTtb { u.ttb with staged := put u.ttb.staged index (some p), armed := none })))) ∧
  (∀ (lane tag disarm month : Nat) (s g u : State), taken (.armPlans lane tag disarm month) s = some g → g.fmn.configLock = false →
    (1 < disarm ∨ disarm = 0 ∧ (4095 < month ∨ month ≤ g.clk.month) →
      exec (.armPlans lane tag disarm month) s = .next (finish (Answer.bare .outOfRange) g)) ∧
    (disarm = 0 → g.clk.month < month → month ≤ 4095 → drawWrite g = (false, u) →
      exec (.armPlans lane tag disarm month) s = .next (finish (Answer.ok (fieldBytes [(1, 1), (2, month), (2, g.ttb.generation)]))
        (u.withTtb { u.ttb with armed := some month }))) ∧
    (disarm = 1 → ∃ open2 : List Byte, open2.length = 2 ∧
      (g.ttb.armed = none →
        exec (.armPlans lane tag disarm month) s = .next (finish (Answer.ok (0 :: open2 ++ beBytes 2 g.ttb.generation)) g)) ∧
      (g.ttb.armed ≠ none → drawWrite g = (false, u) →
        exec (.armPlans lane tag disarm month) s = .next (finish (Answer.ok (0 :: open2 ++ beBytes 2 g.ttb.generation))
          (u.withTtb { u.ttb with armed := none })))))

/-- Every computation that opens a quote keeps the conservation identity: accepted tender and carry in, in milli-cents, equal fixed charge,
recovery, energy cost and carry out. The accepted tender is at most the offered one, and month units, arrears, carry and the token count
stay in their ranges. -/
def Obligations.ConservationIdentity : Prop :=
  ∀ (r : Record) (p : Plan) (offered : Nat) (cap : Option Nat) (f : Figures), computeCredit r p offered cap = .ok f → r.rate ≤ 50 →
    f.accepted * 1000 + r.carry = f.fixed * 1000 + f.recovery * 1000 + f.cost + f.carryOut ∧
    f.accepted ≤ offered ∧ f.recovery ≤ r.arrears ∧
    (∀ change, 1 ≤ f.tokenCount change ∧ f.tokenCount change ≤ 6) ∧
    (r.units ≤ 60000 → p.ceiling ≤ 60000 → r.units + f.energy ≤ 60000) ∧
    (r.carry ≤ 99999 → p.lastPrice ≤ 100000 → (∀ b ∈ p.bounded, b.2 ≤ 100000) → f.carryOut ≤ 99999)

/-! ### Quotes, issue, reprint and verify -/

/-- QUOTE on a lane without a quote, of a good ACTIVE record no other lane quotes, in an ACCEPT zone with loaded slots, whose tender and
identifiers fit, writes into a shadow slot the record rolled into the month with the units, arrears, carry and marks the figures leave, reserves
the accepted tender and opens the quote with its figures: HELD when the review counter is PENDING or the threshold is reached, else OPEN; the
reply carries the figures, the arrears that will remain, the lease and the tag. The note is cleared; the live record, every other quote and
all else stay as they were. A shadow write that fails is STORE_FAULT with a STORE_WRITE fault, the slot back in the pool and no quote. Each of R71's refusals comes in its order, with the note cleared and nothing else changed but what a check code
mismatch changes: QUOTE_OPEN, NOT_FOUND, QUARANTINED, SUSPENDED, METER_BUSY, ZONE_EMBARGO, KEY_UNAVAILABLE with its reason and slot,
CIPHER_FAULT, CLOCK_END, what the computation refuses, RATE_LIMIT, and FLOAT_SHORT with the available float. No void falls among the checks
here: VoidsRelease has those. That the slot is the pool's head is the model's choice: notes/assumptions/9. -/
def Obligations.QuoteOpens : Prop :=
  (∀ (lane tag meter tender slot : Nat) (s g t u : State) (e : Entry) (r : Record) (key : KeyRef) (change : Option KeyRef) (p : Plan)
      (f : Figures) (first : Nat),
      taken (.quote lane tag meter tender) s = some g → g.env.mid = [] → g.quoteAt lane = none → g.dir.lookup meter = some e → e.quarantined = false →
      e.meter = meter → g.record e.slot = r → r.intact = true → r.state = .active → g.quoteLane meter = none →
      (g.zoneAt r.zone).action = .accept →
      ((g.zoneAt r.zone).current = some key ∧ key.rev = r.revision ∧ change = none ∨
        ∃ old, (g.zoneAt r.zone).current = some key ∧ key.rev ≠ r.revision ∧ (g.zoneAt r.zone).previous = some old ∧
          old.rev = r.revision ∧ change = some old ∧ (g.slotAt old.slot).isLoaded = true) →
      (g.slotAt key.slot).isLoaded = true → g.tcu.passed = true → g.clk.minute ≠ 16777215 → tender ≤ 10000000 →
      g.planAt r.plan = some p →
      computeCredit (r.rolled g.clk.month) p tender (if g.restrictedMode then some g.flt.cap else none) = .ok f →
      first = (r.lastTid.map fun n => max g.clk.minute (n + 1)).getD g.clk.minute →
      first + f.tokenCount change.isSome - 1 ≤ 16777215 → first + f.tokenCount change.isSome - 1 ≤ g.clk.minute + 64 →
      f.accepted ≤ g.flt.balance - g.flt.reserved →
      takeSlot (setNote lane .none g) = some (slot, t) → drawWrite t = (false, u) → Store.wf g.ast.slots = true →
      ∃ v q, exec (.quote lane tag meter tender) s = .next (finish (Answer.ok
        (fieldBytes [(5, meter), (4, tender), (4, f.accepted), (4, f.fixed), (4, f.recovery), (4, r.arrears - f.recovery), (2, f.energy),
          (2, f.free), (1, (change.map (·.rev)).getD 0xFF), (1, if change.isSome then key.rev else 0xFF),
          (1, f.tokenCount change.isSome), (3, q.leaseMinute), (1, q.leaseSecond),
          (1, (if f.clamped then 1 else 0) + (if f.restricted then 2 else 0) + (if q.state = .held then 4 else 0)),
          (1, (if q.review then 1 else 0) + (if q.threshold then 2 else 0)), (2, g.clk.month), (2, g.ttb.generation)])) v) ∧
        v.quoteAt lane = some q ∧ (∀ k ∈ counterLanes, k ≠ lane → v.quoteAt k = g.quoteAt k) ∧
        q =
          { lane := lane, meter := meter, live := e.slot, shadow := slot, offered := tender, accepted := f.accepted, fixed := f.fixed
            recovery := f.recovery, energy := f.energy, free := f.free, clamped := f.clamped, restricted := f.restricted
            change := change, key := key, count := f.tokenCount change.isSome, month := g.clk.month, generation := g.ttb.generation
            leaseMinute := min (g.clk.minute * 60 + g.clk.second + g.flt.lease) (16777215 * 60 + 59) / 60
            leaseSecond := min (g.clk.minute * 60 + g.clk.second + g.flt.lease) (16777215 * 60 + 59) % 60
            state := if g.qtb.review = .pending ∨ 0 < g.qtb.threshold ∧ g.qtb.threshold ≤ f.accepted then .held else .opened
            review := decide (g.qtb.review = .pending)
            threshold := decide (0 < g.qtb.threshold ∧ g.qtb.threshold ≤ f.accepted) } ∧
        v.qtb.review = (if g.qtb.review = .pending then .stopped lane else g.qtb.review) ∧
        v.record slot = Record.sealed { r with
          stamp := g.clk.month
          units := (if r.stamp < g.clk.month then 0 else r.units) + f.energy
          fixed := decide (0 < if g.restrictedMode then min tender g.flt.cap else tender) || (r.fixed && decide (g.clk.month ≤ r.stamp))
          taken := decide (0 < f.free) || (r.taken && decide (g.clk.month ≤ r.stamp))
          arrears := r.arrears - f.recovery
          carry := f.carryOut } ∧ (∀ k, k ≠ slot → v.record k = g.record k) ∧
        v.qtb.period = g.qtb.period ∧ v.qtb.threshold = g.qtb.threshold ∧ v.noteAt lane = .none ∧
        (∀ k, k ≠ lane → v.noteAt k = g.noteAt k) ∧ g.ast.free = slot :: v.ast.free ∧
        v = ((((g.withLqa (setNote lane .none g).lqa).withAst v.ast).withQtb v.qtb).withFlt
          { g.flt with reserved := g.flt.reserved + f.accepted }).withEnv u.env) ∧
  ∀ (lane tag meter tender : Nat) (s g n : State), taken (.quote lane tag meter tender) s = some g → g.env.mid = [] → n = setNote lane .none g →
    (g.quoteAt lane ≠ none → exec (.quote lane tag meter tender) s = .next (finish (Answer.bare .quoteOpen) n)) ∧
    (g.quoteAt lane = none →
      (g.dir.lookup meter = none → exec (.quote lane tag meter tender) s = .next (finish (Answer.bare .notFound) n)) ∧
      ∀ (e : Entry) (r : Record), g.dir.lookup meter = some e → g.record e.slot = r →
        (e.quarantined = true → exec (.quote lane tag meter tender) s = .next (finish (Answer.bare .quarantined) n)) ∧
        (e.quarantined = false → r.intact = false →
          exec (.quote lane tag meter tender) s = .next (finish (Answer.bare .quarantined) (quarantine meter n))) ∧
        (e.quarantined = false → r.intact = true →
          (r.state = .suspended → exec (.quote lane tag meter tender) s = .next (finish (Answer.bare .suspended) n)) ∧
          (r.state = .active →
            (g.quoteLane meter ≠ none → exec (.quote lane tag meter tender) s = .next (finish (Answer.bare .meterBusy) n)) ∧
            (g.quoteLane meter = none →
              ((g.zoneAt r.zone).action = .embargo →
                exec (.quote lane tag meter tender) s = .next (finish (Answer.bare .zoneEmbargo) n)) ∧
              ((g.zoneAt r.zone).action ≠ .embargo →
                ((g.zoneAt r.zone).resolve r.revision = .stranded →
                  exec (.quote lane tag meter tender) s = .next (finish ⟨.keyUnavailable, fieldBytes [(1, 3), (1, 0xFF)], none⟩ n)) ∧
                ∀ (key : KeyRef) (change : Option KeyRef),
                  ((g.zoneAt r.zone).resolve r.revision = .same key ∧ change = none ∨
                    ∃ old, (g.zoneAt r.zone).resolve r.revision = .due old key ∧ change = some old) →
                  ((g.slotAt key.slot).isLoaded = false →
                    exec (.quote lane tag meter tender) s =
                      .next (finish ⟨.keyUnavailable, fieldBytes [(1, 1), (1, key.slot)], none⟩ n)) ∧
                  (∀ old, change = some old → (g.slotAt key.slot).isLoaded = true → (g.slotAt old.slot).isLoaded = false →
                    exec (.quote lane tag meter tender) s =
                      .next (finish ⟨.keyUnavailable, fieldBytes [(1, 1), (1, old.slot)], none⟩ n)) ∧
                  ((g.slotAt key.slot).isLoaded = true → (∀ old, change = some old → (g.slotAt old.slot).isLoaded = true) →
                    (g.tcu.passed = false → exec (.quote lane tag meter tender) s = .next (finish (Answer.bare .cipherFault) n)) ∧
                    (g.tcu.passed = true →
                      (g.clk.minute = 16777215 →
                        exec (.quote lane tag meter tender) s = .next (finish (Answer.bare .clockEnd) n)) ∧
                      (g.clk.minute ≠ 16777215 →
                        (10000000 < tender → exec (.quote lane tag meter tender) s = .next (finish (Answer.bare .outOfRange) n)) ∧
                        (tender ≤ 10000000 →
                          (g.planAt r.plan = none → exec (.quote lane tag meter tender) s = .next (finish (Answer.bare .noPlan) n)) ∧
                          ∀ p, g.planAt r.plan = some p →
                            (∀ st, computeCredit (r.rolled g.clk.month) p tender (if g.restrictedMode then some g.flt.cap else none) =
                                .error st →
                              exec (.quote lane tag meter tender) s = .next (finish (Answer.bare st) n)) ∧
                            ∀ (f : Figures) (final : Nat),
                              computeCredit (r.rolled g.clk.month) p tender (if g.restrictedMode then some g.flt.cap else none) = .ok f →
                              final = (r.lastTid.map fun i => max g.clk.minute (i + 1)).getD g.clk.minute +
                                f.tokenCount change.isSome - 1 →
                              (16777215 < final → exec (.quote lane tag meter tender) s = .next (finish (Answer.bare .clockEnd) n)) ∧
                              (final ≤ 16777215 → g.clk.minute + 64 < final →
                                exec (.quote lane tag meter tender) s = .next (finish (Answer.bare .rateLimit) n)) ∧
                              (final ≤ 16777215 → final ≤ g.clk.minute + 64 →
                                (g.flt.balance - g.flt.reserved < f.accepted →
                                  exec (.quote lane tag meter tender) s =
                                    .next (finish ⟨.floatShort, beBytes 4 (g.flt.balance - g.flt.reserved), none⟩ n)) ∧
                                ∀ w, f.accepted ≤ g.flt.balance - g.flt.reserved → g.ast.free ≠ [] → drawWrite n = (true, w) →
                                  exec (.quote lane tag meter tender) s =
                                    .next (finish (Answer.bare .storeFault) (raise .storeWrite w))))))))))))

/-- ISSUE of an OPEN quote with sound slots and no self-test due forms its tokens at two cipher uses for each derivation and one for each
token, completes the shadow version, and in one commit step swaps it in, frees the live slot, draws the float and adds to the accumulators;
the entry empties, the review counter counts the issue, or restarts at 0 to 7 when the quote carried the review tag, and the reply carries
the tokens.
That the freed slot returns to the pool's head is the model's choice: notes/assumptions/9. -/
def Obligations.IssueCommits : Prop :=
  ∀ (lane tag first : Nat) (s g u v : State) (q : Quote) (r : Record) (base toKey fromKey : Block)
    (parts : List (Block × TokenClass × Nat)) (n : Nat),
    taken (.issue lane tag) s = some g → g.quoteAt lane = some q → q.state = .opened → g.record q.shadow = r →
    first = (r.lastTid.map fun n => max g.clk.minute (n + 1)).getD g.clk.minute →
    g.clk.minute ≠ 16777215 → first + q.count - 1 ≤ 16777215 →
    g.sound q.key.slot base → toKey = meterKey base q.meter q.key.rev (g.zoneAt r.zone).group →
    (q.change = none ∧ fromKey = toKey ∧ n = 2 ∨
      ∃ old base', q.change = some old ∧ g.sound old.slot base' ∧ fromKey = meterKey base' q.meter old.rev (g.zoneAt r.zone).group ∧ n = 4) →
    parts = TokenSet.parts ⟨q.change.map fun _ => q.key.rev, q.energy, q.free⟩ toKey fromKey → g.calm (n + parts.length) →
    drawWrite ((setQuote lane (some { q with state := .issuing }) g).used (n + parts.length)) = (false, u) →
    drawWrite (writeSlot q.shadow (q.complete first r).sealed u) = (false, v) →
    ∃ w, exec (.issue lane tag) s = .next (finish (Answer.ok
        (fieldBytes [(5, q.meter), (4, q.accepted), (2, q.energy), (2, q.free), (3, first), (1, q.count)] ++
          (setTokens first parts).flatMap tokenDigits)) w) ∧
      w.quoteAt lane = none ∧ (∀ k ∈ counterLanes, k ≠ lane → w.quoteAt k = g.quoteAt k) ∧
      w.ast.slots = Store.write g.ast.slots q.shadow (Record.sealed { r with
        lastTid := some (first + q.count - 1)
        issue := some ⟨first, q.count, q.energy, q.free, q.change.map fun old => ⟨old.rev, q.key.rev⟩⟩
        revision := if q.change.isSome then q.key.rev else r.revision }) ∧
      w.ast.free = q.live :: g.ast.free ∧
      w.flt = { g.flt with
        balance := g.flt.balance - q.accepted, reserved := g.flt.reserved - q.accepted
        totals := ⟨min (g.flt.totals.tokens + q.count) 1099511627775, min (g.flt.totals.credit + q.energy) 1099511627775,
          min (g.flt.totals.free + q.free) 1099511627775, min (g.flt.totals.tender + q.accepted) 1099511627775,
          min (g.flt.totals.fixed + q.fixed) 1099511627775, min (g.flt.totals.recovery + q.recovery) 1099511627775⟩ } ∧
      (q.review = false → ∀ v, g.qtb.review = .counting v → w.qtb.review =
        if g.qtb.period = 0 then .counting v else if v + 1 = max 8 g.qtb.period then .pending else .counting (v + 1)) ∧
      (q.review = false → (∀ v, g.qtb.review ≠ .counting v) → w.qtb.review = g.qtb.review) ∧
      (q.review = true → ∃ v, v ≤ 7 ∧ w.qtb.review = .counting v) ∧ w.qtb.period = g.qtb.period ∧ w.qtb.threshold = g.qtb.threshold ∧
      (q.review = false → w.freeReads = g.freeReads) ∧
      w = (((((((g.withQtb w.qtb).withAst w.ast).withDir (g.dir.swap q.meter q.shadow)).withFlt w.flt).withTcu
        { g.tcu with uses := g.tcu.uses + n + parts.length }).withEnv v.env).withFreeReads w.freeReads)

/-- What a void does: the entry empties, the shadow slot joins the free pool, the reserved amount falls by the accepted tender, and the
review counter restarts at 0 to 7 when the quote carried the review tag; nothing else changes. An issue that fails voids its quote so and
releases no token: at the clock's end, or when its last identifier would pass it, with CLOCK_END, where its token set fails with KEY_UNAVAILABLE or CIPHER_FAULT, and at a failed write
of its completion or of its commit step with STORE_FAULT; an ISSUE while the cipher is FAILED is CIPHER_FAULT and leaves its quote OPEN and
all else as it was. A zeroise or a link break empties every entry that is not ISSUING, and a quote
that a QUOTE being served then writes is voided with the same note as soon as it is written. The pool's order and the free value behind the
restart are the model's choices: notes/assumptions/9 and 6. -/
def Obligations.VoidsRelease : Prop :=
  (∀ (lane : Nat) (s : State) (q : Quote), lane ∈ counterLanes → s.quoteAt lane = some q →
    ∃ review reads, (q.review = false → review = s.qtb.review ∧ reads = s.freeReads) ∧
      (q.review = true → ∃ v, v ≤ 7 ∧ review = .counting v) ∧
      voidQuote lane s = (((s.withQtb { s.qtb with quotes := put s.qtb.quotes (lane - 1) none, review := review }).withAst
        { s.ast with free := q.shadow :: s.ast.free }).withFlt { s.flt with reserved := s.flt.reserved - q.accepted }).withFreeReads reads) ∧
  (∀ (lane tag first : Nat) (s g i : State) (q : Quote), taken (.issue lane tag) s = some g → g.quoteAt lane = some q → q.state = .opened →
    first = ((g.record q.shadow).lastTid.map fun n => max g.clk.minute (n + 1)).getD g.clk.minute →
    i = setQuote lane (some { q with state := .issuing }) g →
    (g.tcu.passed = false → exec (.issue lane tag) s = .next (finish (Answer.bare .cipherFault) g)) ∧
    (g.tcu.passed = true →
      (g.clk.minute = 16777215 ∨ 16777215 < first + q.count - 1 →
        exec (.issue lane tag) s = .next (finish (Answer.bare .clockEnd) (voidQuote lane i))) ∧
      (g.clk.minute ≠ 16777215 → first + q.count - 1 ≤ 16777215 →
        (∀ tokens t u, formSet (g.record q.shadow).zone q.meter q.key q.change first q.tokenSet i = .ok tokens t →
          (drawWrite t = (true, u) →
            exec (.issue lane tag) s = .next (finish (Answer.bare .storeFault) (voidQuote lane (raise .storeWrite u)))) ∧
          ∀ v, drawWrite t = (false, u) →
            drawWrite (writeSlot q.shadow (q.complete first (u.record q.shadow)).sealed u) = (true, v) →
            exec (.issue lane tag) s = .next (finish (Answer.bare .storeFault) (voidQuote lane (raise .storeWrite v)))) ∧
        ∀ a t, formSet (g.record q.shadow).zone q.meter q.key q.change first q.tokenSet i = .no a t →
          exec (.issue lane tag) s = .next (finish a (voidQuote lane t)) ∧ (a.status = .keyUnavailable ∨ a = Answer.bare .cipherFault)))) ∧
  (∀ (lane : Nat) (s : State) (q : Quote) (v : Serving), lane ∈ counterLanes → s.serving = some v → q.state ≠ .issuing →
    (v.cause = none → openQuote lane q s = placeQuote lane q s) ∧
    ∀ note, v.cause = some note → openQuote lane q s = setNote lane note (voidQuote lane (placeQuote lane q s))) ∧
  ∀ (note : Note) (s : State) (v : Serving), s.serving = some v →
    (strike note s).serving = some { v with cause := some note } ∧
    ∀ k ∈ counterLanes, (strike note s).quoteAt k = (s.quoteAt k).filter fun q => decide (q.state = .issuing)

/-- WITHDRAW voids the lane's OPEN or HELD quote and replies its meter and the amount released; without a quote, WITHDRAW and ISSUE are
answered from the note, LATE or VOIDED with the note cleared, or NO_QUOTE. A HELD quote answers ISSUE with COUNTERSIGN_REQUIRED. -/
def Obligations.WithdrawAndNotes : Prop :=
  ∀ (lane tag : Nat) (s g : State),
    (taken (.withdraw lane tag) s = some g →
      (∀ q, g.quoteAt lane = some q → q.state ≠ .issuing →
        exec (.withdraw lane tag) s = .next (finish (Answer.ok (fieldBytes [(5, q.meter), (4, q.accepted)])) (voidQuote lane g))) ∧
      (g.quoteAt lane = none → g.noteAt lane = .expired →
        exec (.withdraw lane tag) s = .next (finish (Answer.bare .late) (setNote lane .none g))) ∧
      (g.quoteAt lane = none → g.noteAt lane = .voided →
        exec (.withdraw lane tag) s = .next (finish (Answer.bare .voided) (setNote lane .none g))) ∧
      (g.quoteAt lane = none → g.noteAt lane = .none → exec (.withdraw lane tag) s = .next (finish (Answer.bare .noQuote) g))) ∧
    (taken (.issue lane tag) s = some g →
      (g.quoteAt lane = none → g.noteAt lane = .expired →
        exec (.issue lane tag) s = .next (finish (Answer.bare .late) (setNote lane .none g))) ∧
      (g.quoteAt lane = none → g.noteAt lane = .voided →
        exec (.issue lane tag) s = .next (finish (Answer.bare .voided) (setNote lane .none g))) ∧
      (g.quoteAt lane = none → g.noteAt lane = .none → exec (.issue lane tag) s = .next (finish (Answer.bare .noQuote) g)) ∧
      ∀ q, g.quoteAt lane = some q → q.state = .held →
        exec (.issue lane tag) s = .next (finish (Answer.bare .countersignRequired) g))

/-- A lease expiry that the clock has reached voids an OPEN or HELD quote with note EXPIRED, leaves an ISSUING one alone, and is no event
before its time. The deadline's expiry, when the clock has reached the deadline, changes no item of the float: the deadline stays recorded
and the mode reads RESTRICTED; it is no event while the deadline is ahead or absent.
That an event not due changes nothing, and the mark of an expiry that has arrived, are the model's choices: notes/assumptions/3 and 19. -/
def Obligations.ExpiriesAct : Prop :=
  (∀ (lane : Nat) (s : State) (q : Quote), s.supply = true → s.quoteAt lane = some q →
    (q.leaseMinute * 60 + q.leaseSecond ≤ s.clk.minute * 60 + s.clk.second →
      (q.state ≠ .issuing → exec (.leaseExpiry lane) s = .next (setNote lane .expired (voidQuote lane s))) ∧
      (q.state = .issuing → exec (.leaseExpiry lane) s = .next s)) ∧
    (s.clk.minute * 60 + s.clk.second < q.leaseMinute * 60 + q.leaseSecond → exec (.leaseExpiry lane) s = .next s)) ∧
  (∀ s : State, s.supply = true →
    (∀ d, s.flt.deadline = some d → d ≤ s.clk.minute →
      exec .deadlineExpiry s = .next (s.withFlt { s.flt with noted := true }) ∧
      (s.withFlt { s.flt with noted := true }).restrictedMode = true) ∧
    (∀ d, s.flt.deadline = some d → s.clk.minute < d → exec .deadlineExpiry s = .next s ∧ s.restrictedMode = false) ∧
    (s.flt.deadline = none → exec .deadlineExpiry s = .next s ∧ s.restrictedMode = true))

/-- COUNTERSIGN opens a HELD quote and leaves its figures, lease and tag as they are; a lane outside 1 to 8 is OUT_OF_RANGE, a lane whose
quote is not HELD is NO_QUOTE. SET COUNTERSIGN writes the period and the threshold, replies the effective period, 8 for 1 to 7, and acts on
the review counter at once; a period above 1023 or a threshold above 10,000,000 is OUT_OF_RANGE. -/
def Obligations.CountersignRules : Prop :=
  (∀ (lane tag counter : Nat) (s g : State), taken (.countersign lane tag counter) s = some g →
    (counter = 0 ∨ 8 < counter → exec (.countersign lane tag counter) s = .next (finish (Answer.bare .outOfRange) g)) ∧
    (1 ≤ counter → counter ≤ 8 →
      (∀ q, g.quoteAt counter = some q → q.state = .held →
        exec (.countersign lane tag counter) s = .next (finish
          (Answer.ok (fieldBytes [(5, q.meter), (4, q.accepted), (1, (if q.review then 1 else 0) + (if q.threshold then 2 else 0)),
            (3, q.leaseMinute), (1, q.leaseSecond)]))
          (g.withQtb { g.qtb with quotes := put g.qtb.quotes (counter - 1) (some { q with state := .opened }) }))) ∧
      ((∀ q, g.quoteAt counter = some q → q.state ≠ .held) →
        exec (.countersign lane tag counter) s = .next (finish (Answer.bare .noQuote) g)))) ∧
  (∀ (lane tag period threshold : Nat) (s g u : State), taken (.setCountersign lane tag period threshold) s = some g →
    g.fmn.configLock = false →
    (1023 < period ∨ 10000000 < threshold →
      exec (.setCountersign lane tag period threshold) s = .next (finish (Answer.bare .outOfRange) g)) ∧
    (period ≤ 1023 → threshold ≤ 10000000 → drawWrite g = (false, u) → ∀ old new review,
      old = (if g.qtb.period = 0 then 0 else if g.qtb.period ≤ 7 then 8 else g.qtb.period) →
      new = (if period = 0 then 0 else if period ≤ 7 then 8 else period) →
      (∀ v, g.qtb.review = .counting v → review = if 0 < new ∧ new ≤ v then .pending else .counting v) →
      (g.qtb.review = .pending → review = if new = 0 then .counting old else .pending) →
      (∀ k, g.qtb.review = .stopped k → review = .stopped k) →
      exec (.setCountersign lane tag period threshold) s = .next (finish (Answer.ok (fieldBytes [(2, period), (2, new)]))
        (u.withQtb { u.qtb with period := period, threshold := threshold, review := review }))))

/-- REPRINT rebuilds the last issued set from the record's last issue, under the slots the zone now names for its revisions, at the uses
of an issue, and changes nothing but the use counter; without a last issue it is NO_ISSUE. It is refused NOT_FOUND and QUARANTINED before. -/
def Obligations.ReprintRebuilds : Prop :=
  (∀ (lane tag meter : Nat) (s g : State), taken (.reprint lane tag meter) s = some g →
    (g.dir.lookup meter = none → exec (.reprint lane tag meter) s = .next (finish (Answer.bare .notFound) g)) ∧
    ∀ e, g.dir.lookup meter = some e →
      (e.quarantined = true → exec (.reprint lane tag meter) s = .next (finish (Answer.bare .quarantined) g)) ∧
      (e.quarantined = false → (g.record e.slot).intact = false →
        exec (.reprint lane tag meter) s = .next (finish (Answer.bare .quarantined) (quarantine meter g)))) ∧
  ∀ (lane tag meter : Nat) (s g : State) (e : Entry) (r : Record), taken (.reprint lane tag meter) s = some g →
    g.dir.lookup meter = some e → e.quarantined = false → g.record e.slot = r → r.intact = true →
    (r.issue = none → exec (.reprint lane tag meter) s = .next (finish (Answer.bare .noIssue) g)) ∧
    ∀ (i : LastIssue) (key : KeyRef) (base toKey fromKey : Block) (parts : List (Block × TokenClass × Nat)) (n : Nat),
      r.issue = some i → g.sound key.slot base → toKey = meterKey base meter key.rev (g.zoneAt r.zone).group →
      (i.change = none ∧ (g.zoneAt r.zone).keyFor r.revision = some key ∧ fromKey = toKey ∧ n = 2 ∨
        ∃ c old base', i.change = some c ∧ (g.zoneAt r.zone).keyFor c.toRev = some key ∧ (g.zoneAt r.zone).keyFor c.fromRev = some old ∧
          g.sound old.slot base' ∧ fromKey = meterKey base' meter old.rev (g.zoneAt r.zone).group ∧ n = 4) →
      parts = TokenSet.parts ⟨i.change.map (·.toRev), i.credit, i.free⟩ toKey fromKey → g.calm (n + parts.length) →
      exec (.reprint lane tag meter) s = .next (finish (Answer.ok
        (fieldBytes [(5, meter), (3, i.firstTid), (1, i.count), (2, i.credit), (2, i.free), (1, (i.change.map (·.fromRev)).getD 0xFF),
          (1, (i.change.map (·.toRev)).getD 0xFF)] ++ (setTokens i.firstTid parts).flatMap tokenDigits)) (g.used (n + parts.length)))

/-- VERIFY deciphers the token under the meter key at the record's revision at three cipher uses and reports what decodes; when that does
not decode it tries the zone's previous revision at three more, if it differs and its slot is loaded, and says when it passed that attempt
over for want of a loaded slot. A token that no attempt decodes is answered OK with no valid decode. It is refused NOT_FOUND and QUARANTINED
before. The bytes of a token that did not
decode are free values: notes/assumptions/7. -/
def Obligations.VerifyDecodes : Prop :=
  (∀ (lane tag meter token : Nat) (s g : State), taken (.verify lane tag meter token) s = some g →
    (g.dir.lookup meter = none → exec (.verify lane tag meter token) s = .next (finish (Answer.bare .notFound) g)) ∧
    ∀ e, g.dir.lookup meter = some e →
      (e.quarantined = true → exec (.verify lane tag meter token) s = .next (finish (Answer.bare .quarantined) g)) ∧
      (e.quarantined = false → (g.record e.slot).intact = false →
        exec (.verify lane tag meter token) s = .next (finish (Answer.bare .quarantined) (quarantine meter g)))) ∧
  ∀ (lane tag meter token : Nat) (s g : State) (e : Entry) (r : Record) (key : KeyRef) (base : Block),
    taken (.verify lane tag meter token) s = some g → g.dir.lookup meter = some e → e.quarantined = false → g.record e.slot = r →
    r.intact = true → (g.zoneAt r.zone).keyFor r.revision = some key → g.sound key.slot base →
    (∀ d, g.calm 3 →
      readToken (decipher (meterKey base meter key.rev (g.zoneAt r.zone).group) (BitVec.ofNat 64 token)) = some d →
      exec (.verify lane tag meter token) s = .next (finish (Answer.ok (fieldBytes [(5, meter), (1, r.revision), (1, 0xFF), (1, 0), (1, 1),
        (1, d.cls.code), (3, d.tid), (3, if d.cls = .keyPart then d.payload / 2 ^ 18 * 2 ^ 18 + d.payload % 4 else d.payload),
        (1, r.revision), (1, if r.lastTid.all (fun n => decide (n < d.tid)) then 1 else 0)])) (g.used 3))) ∧
    (∀ old base' d, g.calm 6 → (g.zoneAt r.zone).previous = some old → old.rev ≠ r.revision → g.sound old.slot base' →
      readToken (decipher (meterKey base meter key.rev (g.zoneAt r.zone).group) (BitVec.ofNat 64 token)) = none →
      readToken (decipher (meterKey base' meter old.rev (g.zoneAt r.zone).group) (BitVec.ofNat 64 token)) = some d →
      exec (.verify lane tag meter token) s = .next (finish (Answer.ok (fieldBytes [(5, meter), (1, r.revision), (1, old.rev), (1, 0), (1, 1),
        (1, d.cls.code), (3, d.tid), (3, if d.cls = .keyPart then d.payload / 2 ^ 18 * 2 ^ 18 + d.payload % 4 else d.payload),
        (1, old.rev), (1, if r.lastTid.all (fun n => decide (n < d.tid)) then 1 else 0)])) (g.used 6))) ∧
    (readToken (decipher (meterKey base meter key.rev (g.zoneAt r.zone).group) (BitVec.ofNat 64 token)) = none →
      ∃ open7 open1 : List Byte, open7.length = 7 ∧ open1.length = 1 ∧
      (g.calm 3 → ((g.zoneAt r.zone).previous.all fun old => decide (old.rev = r.revision)) = true →
        exec (.verify lane tag meter token) s = .next (finish (Answer.ok
          (fieldBytes [(5, meter), (1, r.revision), (1, 0xFF), (1, 0), (1, 0)] ++ open7 ++ [0xFF] ++ open1)) (g.used 3))) ∧
      (∀ old, g.calm 3 → (g.zoneAt r.zone).previous = some old → old.rev ≠ r.revision → (g.slotAt old.slot).isLoaded = false →
        exec (.verify lane tag meter token) s = .next (finish (Answer.ok
          (fieldBytes [(5, meter), (1, r.revision), (1, 0xFF), (1, 1), (1, 0)] ++ open7 ++ [0xFF] ++ open1)) (g.used 3))) ∧
      ∀ old base', g.calm 6 → (g.zoneAt r.zone).previous = some old → old.rev ≠ r.revision → g.sound old.slot base' →
        readToken (decipher (meterKey base' meter old.rev (g.zoneAt r.zone).group) (BitVec.ofNat 64 token)) = none →
        exec (.verify lane tag meter token) s = .next (finish (Answer.ok
          (fieldBytes [(5, meter), (1, r.revision), (1, old.rev), (1, 0), (1, 0)] ++ open7 ++ [0xFF] ++ open1)) (g.used 6)))

/-! ### The float -/

/-- GRANT with a good authenticator, the next sequence and the present statement number raises the balance to the ceiling at most, sets the
deadline and the sequence in one write, at three cipher uses, and replies the excess clamped away; a wrong authenticator is
BAD_AUTHENTICATOR and a wrong sequence or statement OUT_OF_SEQUENCE with the expected ones; an amount or hours out of range are
OUT_OF_RANGE at no cipher use, and a failed write is STORE_FAULT with STORE_WRITE raised and the float as it was. The mark `noted` that a new deadline clears is
the model's own: notes/assumptions/19. -/
def Obligations.GrantRaisesFloat : Prop :=
  ∀ (lane tag sequence amount hours number auth : Nat) (s g u : State) (k : Block),
    taken (.grant lane tag sequence amount hours number auth) s = some g →
    (amount = 0 ∨ 1000000000 < amount ∨ hours = 0 ∨ 720 < hours →
      exec (.grant lane tag sequence amount hours number auth) s = .next (finish (Answer.bare .outOfRange) g)) ∧
    (1 ≤ amount → amount ≤ 1000000000 → 1 ≤ hours → hours ≤ 720 → g.sound 1 k → g.calm 3 → ∀ made : Block,
    made = chained k [BitVec.ofNat 64 (sequence * 2 ^ 48 + number * 2 ^ 32 + hours * 2 ^ 16 + 0x6A17), BitVec.ofNat 64 amount] →
    (made ≠ BitVec.ofNat 64 auth →
      exec (.grant lane tag sequence amount hours number auth) s = .next (finish (Answer.bare .badAuthenticator) (g.used 3))) ∧
    (made = BitVec.ofNat 64 auth → sequence ≠ (g.flt.sequence + 1) % 65536 ∨ number ≠ g.flt.number →
      exec (.grant lane tag sequence amount hours number auth) s = .next (finish
        ⟨.outOfSequence, fieldBytes [(2, (g.flt.sequence + 1) % 65536), (2, g.flt.number)], none⟩ (g.used 3))) ∧
    (made = BitVec.ofNat 64 auth → sequence = (g.flt.sequence + 1) % 65536 → number = g.flt.number → drawWrite (g.used 3) = (true, u) →
      exec (.grant lane tag sequence amount hours number auth) s =
        .next (finish (Answer.bare .storeFault) (raise .storeWrite u))) ∧
    (made = BitVec.ofNat 64 auth → sequence = (g.flt.sequence + 1) % 65536 → number = g.flt.number →
      drawWrite (g.used 3) = (false, u) →
      exec (.grant lane tag sequence amount hours number auth) s = .next (finish
        (Answer.ok (fieldBytes [(4, min (g.flt.balance + amount) g.flt.ceiling), (4, g.flt.balance + amount - g.flt.ceiling),
          (3, min (g.clk.minute + hours * 60) 16777215), (2, sequence)]))
        (u.withFlt { u.flt with
          balance := min (g.flt.balance + amount) g.flt.ceiling
          deadline := some (min (g.clk.minute + hours * 60) 16777215), noted := false, sequence := sequence }))))

/-- STATEMENT without the repeat flag reports the six accumulators under the next number with their authenticator, at eight cipher uses,
and in one write clears them, moves the number on and keeps the record; a failed write is STORE_FAULT with STORE_WRITE raised and leaves the
accumulators, the number and the record kept as they were. With the flag it replies the record kept, or NOT_FOUND, and changes nothing; a
flag above 1 is OUT_OF_RANGE. -/
def Obligations.StatementClears : Prop :=
  ∀ (lane tag : Nat) (s g u : State) (k : Block),
    (taken (.statement lane tag 0) s = some g → g.sound 1 k → g.calm 8 → ∀ (number : Nat) (made : Block) (t : Totals),
      number = (g.flt.number + 1) % 65536 → t = g.flt.totals →
      made = chained k (BitVec.ofNat 64 (number * 2 ^ 48 + g.clk.minute * 2 ^ 24) ::
        [t.tokens, t.credit, t.free, t.tender, t.fixed, t.recovery].map (BitVec.ofNat 64)) →
      (drawWrite (g.used 8) = (true, u) →
        exec (.statement lane tag 0) s = .next (finish (Answer.bare .storeFault) (raise .storeWrite u))) ∧
      (drawWrite (g.used 8) = (false, u) →
      exec (.statement lane tag 0) s = .next (finish
        (Answer.ok (fieldBytes [(2, number), (3, g.clk.minute), (5, t.tokens), (5, t.credit), (5, t.free), (5, t.tender), (5, t.fixed),
          (5, t.recovery), (8, made.toNat)]))
        (u.withFlt { u.flt with totals := ⟨0, 0, 0, 0, 0, 0⟩, number := number, last := some ⟨number, g.clk.minute, t, made⟩ })))) ∧
    (∀ again, 1 < again → taken (.statement lane tag again) s = some g →
      exec (.statement lane tag again) s = .next (finish (Answer.bare .outOfRange) g)) ∧
    (taken (.statement lane tag 1) s = some g →
      (g.flt.last = none → exec (.statement lane tag 1) s = .next (finish (Answer.bare .notFound) g)) ∧
      ∀ r, g.flt.last = some r → exec (.statement lane tag 1) s = .next (finish
        (Answer.ok (fieldBytes [(2, r.number), (3, r.minute), (5, r.totals.tokens), (5, r.totals.credit), (5, r.totals.free),
          (5, r.totals.tender), (5, r.totals.fixed), (5, r.totals.recovery), (8, r.auth.toNat)])) g))

/-- SET LIMITS: CONFIG_LOCKED under the lock; a ceiling of 0, above 1,000,000,000 or below the balance, or a cap above 10,000,000, is
OUT_OF_RANGE; otherwise one write sets the three values, the lease brought into 30 to 600 and marked clamped if it was not in it, and a
failed write is answered STORE_FAULT with nothing set. -/
def Obligations.SetLimitsWrites : Prop :=
  ∀ (lane tag ceiling cap lease : Nat) (s g u : State), taken (.setLimits lane tag ceiling cap lease) s = some g →
    (g.fmn.configLock = true → exec (.setLimits lane tag ceiling cap lease) s = .next (finish (Answer.bare .configLocked) g)) ∧
    (g.fmn.configLock = false →
      (ceiling = 0 ∨ 1000000000 < ceiling ∨ 10000000 < cap ∨ ceiling < g.flt.balance →
        exec (.setLimits lane tag ceiling cap lease) s = .next (finish (Answer.bare .outOfRange) g)) ∧
      (1 ≤ ceiling → ceiling ≤ 1000000000 → cap ≤ 10000000 → g.flt.balance ≤ ceiling → ∀ take : Nat,
        take = (if lease < 30 then 30 else if 600 < lease then 600 else lease) →
        (drawWrite g = (false, u) →
          exec (.setLimits lane tag ceiling cap lease) s = .next (finish
            (Answer.ok (fieldBytes [(4, ceiling), (4, cap), (2, take), (1, if lease < 30 ∨ 600 < lease then 1 else 0)]))
            (u.withFlt { u.flt with ceiling := ceiling, cap := cap, lease := take }))) ∧
        (drawWrite g = (true, u) →
          exec (.setLimits lane tag ceiling cap lease) s = .next (finish (Answer.bare .storeFault) (raise .storeWrite u)))))

/-! ### The office clock -/

/-- SET CLOCK to an earlier minute is CLOCK_BACKWARD; to the present one it changes nothing; to a later one it sets the minute with second
0 and, when that reaches the boundary, rolls the month before it replies, with the rolled flag; a roll whose write fails raises STORE_WRITE,
waits for its retry and is replied as not rolled.
That the jump tries a waiting roll, and the bytes under a mark of absence, are the model's: notes/assumptions/27 and 7. -/
def Obligations.SetClockJumps : Prop :=
  ∀ (lane tag minute : Nat) (s g u : State), taken (.setClock lane tag minute) s = some g →
    (minute < g.clk.minute → exec (.setClock lane tag minute) s = .next (finish (Answer.bare .clockBackward) g)) ∧
    (minute = g.clk.minute → ∃ payload, exec (.setClock lane tag minute) s = .next (finish (Answer.ok payload) g) ∧
      payload.take 6 = fieldBytes [(3, minute), (1, g.clk.second), (2, g.clk.month)] ∧ payload.getLast? = some 0) ∧
    (g.clk.minute < minute →
      (∀ b, g.clk.boundary = some b → minute < b →
        exec (.setClock lane tag minute) s = .next (finish
          (Answer.ok (fieldBytes [(3, minute), (1, 0), (2, g.clk.month), (1, 1), (3, b), (2, g.ttb.generation), (1, 0)]))
          (g.withClk { g.clk with minute := minute, second := 0 }))) ∧
      (g.clk.boundary = none → ∃ payload,
        exec (.setClock lane tag minute) s = .next (finish (Answer.ok payload) (g.withClk { g.clk with minute := minute, second := 0 })) ∧
        payload.take 7 = fieldBytes [(3, minute), (1, 0), (2, g.clk.month), (1, 0)] ∧ payload.getLast? = some 0) ∧
      (∀ b, g.clk.boundary = some b → b ≤ minute → drawWrite (g.withClk { g.clk with minute := minute, second := 0 }) = (true, u) →
        exec (.setClock lane tag minute) s = .next (finish
          (Answer.ok (fieldBytes [(3, minute), (1, 0), (2, g.clk.month), (1, 1), (3, b), (2, g.ttb.generation), (1, 0)]))
          ((raise .storeWrite u).withClk { u.clk with rollWaiting := true }))) ∧
      (∀ b, g.clk.boundary = some b → b ≤ minute →
        drawWrite (g.withClk { g.clk with minute := minute, second := 0 }) = (false, u) →
        ∃ payload t, exec (.setClock lane tag minute) s = .next (finish (Answer.ok payload) t) ∧
          payload.take 6 = fieldBytes [(3, minute), (1, 0), (2, min (g.clk.month + 1) 4095)] ∧ payload.getLast? = some 1 ∧
          t = (u.withClk ⟨0, minute, min (g.clk.month + 1) 4095, none, false⟩).withTtb
            (if g.clk.month < 4095 ∧ g.ttb.armed = some (g.clk.month + 1) then
              ⟨g.ttb.staged, g.ttb.active, none, (g.ttb.generation + 1) % 65536⟩ else g.ttb)))

/-- SET BOUNDARY with a minute not above the clock is OUT_OF_RANGE; else one write sets it, replacing any other, or clears it with the clear
mark, writing nothing when it was absent; a failed write is STORE_FAULT. It is taken under the configuration lock and at any month.
That the request ends the wait of a failed roll, and the bytes under a mark of absence, are the model's: notes/assumptions/27 and 7. -/
def Obligations.SetBoundarySets : Prop :=
  ∀ (lane tag clear minute : Nat) (s g u : State), taken (.setBoundary lane tag clear minute) s = some g →
    (1 < clear ∨ clear = 0 ∧ minute ≤ g.clk.minute →
      exec (.setBoundary lane tag clear minute) s = .next (finish (Answer.bare .outOfRange) g)) ∧
    (clear = 0 → g.clk.minute < minute →
      (drawWrite g = (false, u) →
        exec (.setBoundary lane tag clear minute) s = .next (finish
          (Answer.ok (fieldBytes [(1, 1), (3, minute), (3, g.clk.minute), (2, g.clk.month)]))
          (u.withClk { u.clk with boundary := some minute, rollWaiting := false }))) ∧
      (drawWrite g = (true, u) →
        exec (.setBoundary lane tag clear minute) s = .next (finish (Answer.bare .storeFault) (raise .storeWrite u)))) ∧
    (clear = 1 → ∃ open3 : List Byte, open3.length = 3 ∧
      (g.clk.boundary = none →
        exec (.setBoundary lane tag clear minute) s = .next (finish
          (Answer.ok (0 :: open3 ++ fieldBytes [(3, g.clk.minute), (2, g.clk.month)])) g)) ∧
      (g.clk.boundary ≠ none → drawWrite g = (false, u) →
        exec (.setBoundary lane tag clear minute) s = .next (finish
          (Answer.ok (0 :: open3 ++ fieldBytes [(3, g.clk.minute), (2, g.clk.month)]))
          (u.withClk { u.clk with boundary := none, rollWaiting := false }))) ∧
      (g.clk.boundary ≠ none → drawWrite g = (true, u) →
        exec (.setBoundary lane tag clear minute) s = .next (finish (Answer.bare .storeFault) (raise .storeWrite u))))

/-- The month roll at a reached boundary advances the month, up to 4095, clears the boundary and, when the new month is armed, swaps the
banks, all in one write; a failed write leaves them, raises STORE_WRITE and leaves the roll to be taken again, which the retry does.
The mark of a roll that waits for its retry is the model's: notes/assumptions/27. -/
def Obligations.MonthRolls : Prop :=
  ∀ (s u : State) (b : Nat), s.supply = true → s.startUp = .done → s.clk.boundary = some b → b ≤ s.clk.minute →
    ∀ c, (c = Instr.monthRoll ∧ s.clk.rollWaiting = false ∨ c = Instr.monthRollRetry ∧ s.clk.rollWaiting = true) →
      (drawWrite s = (false, u) →
        exec c s = .next ((u.withClk { u.clk with month := min (s.clk.month + 1) 4095, boundary := none, rollWaiting := false }).withTtb
          (if s.clk.month < 4095 ∧ s.ttb.armed = some (s.clk.month + 1) then
            ⟨s.ttb.staged, s.ttb.active, none, (s.ttb.generation + 1) % 65536⟩ else s.ttb))) ∧
      (drawWrite s = (true, u) →
        exec c s = .next ((raise .storeWrite u).withClk { u.clk with rollWaiting := true }))

/-- A second of the clock: the second rises to 59, then the minute rises and the second is 0, until minute 16,777,215, second 59, where the
clock stands from then on; with or without supply.
That CLOCK_END is the last second's own row is the model's choice: notes/assumptions/18. -/
def Obligations.ClockCounts : Prop :=
  ∀ s : State,
    (s.clk.second < 59 → exec .clockSecond s = .next (s.withClk { s.clk with second := s.clk.second + 1 })) ∧
    (s.clk.second = 59 → s.clk.minute < 16777215 →
      exec .clockSecond s = .next (s.withClk { s.clk with second := 0, minute := s.clk.minute + 1 })) ∧
    (s.clk.second = 59 → s.clk.minute = 16777215 → exec .clockSecond s = .next s) ∧
    (s.clk.minute = 16777215 → s.clk.second = 58 → exec .clockEnd s = .next (s.withClk { s.clk with second := 59 })) ∧
    (s.clk.minute = 16777215 → s.clk.second = 59 → exec .clockEnd s = .next s)

/-- No well-formed command takes the clock out of its range, and none ever lowers the clock minute or the month number. -/
def Obligations.TimeNeverDecreases : Prop :=
  ∀ (c : Instr) (s t : State), c.wf = true → s.clk.bounded → exec c s = .next t →
    t.clk.bounded ∧ s.clk.minute ≤ t.clk.minute ∧ s.clk.month ≤ t.clk.month

/-! ### The fault monitor, the lock and zeroise -/

/-- What the fault monitor makes of a fault of level L: reported only while LOCKED; locked at a level-6 fault beside a level-6 entry, and
at a push onto a full stack; pushed above the hold level, which becomes L; else reported only. It is recorded as the latest fault. -/
def Obligations.FaultArrives : Prop :=
  ∀ (k : FaultKind) (minute level : Nat) (m : Fmn),
    level = (if k = .recordCheck then 2 else if k = .storeWrite then 5 else 6) →
    (m.locked = true → m.arrive k minute = { m with latest := some ⟨k, level, minute, .reportedOnly⟩ }) ∧
    (m.locked = false →
      (level = 6 ∧ (∃ e ∈ m.stack, e.level = 6) ∨ m.hold < level ∧ 2 ≤ m.stack.length →
        m.arrive k minute = { m with locked := true, latest := some ⟨k, level, minute, .lockedPart⟩ }) ∧
      (¬ (level = 6 ∧ ∃ e ∈ m.stack, e.level = 6) → m.hold < level → m.stack.length < 2 →
        m.arrive k minute =
          { m with stack := ⟨m.hold, k, level⟩ :: m.stack, hold := level, latest := some ⟨k, level, minute, .pushed⟩ }) ∧
      (¬ (level = 6 ∧ ∃ e ∈ m.stack, e.level = 6) → level ≤ m.hold →
        m.arrive k minute = { m with latest := some ⟨k, level, minute, .reportedOnly⟩ }))

/-- SET HOLD sets the hold level to the level given, 6 at most, whatever the stack holds and the lock says, and replies the former level,
the new one and whether it was clamped; the stack is not touched. LANE LEVEL sets a counter lane's level 0 to 6 in one write and replies
the former and the new one; its queue, quote and turn stay; a lane outside 1 to 8 or a level above 6 is OUT_OF_RANGE. -/
def Obligations.HoldAndLaneLevels : Prop :=
  (∀ (lane tag level : Nat) (s g : State), taken (.setHold lane tag level) s = some g →
    exec (.setHold lane tag level) s = .next (finish
      (Answer.ok (fieldBytes [(1, g.fmn.hold), (1, if 6 < level then 6 else level), (1, if 6 < level then 1 else 0)]))
      (g.withFmn { g.fmn with hold := if 6 < level then 6 else level }))) ∧
  (∀ (lane tag counter level : Nat) (s g u : State), taken (.laneLevel lane tag counter level) s = some g → g.fmn.configLock = false →
    (counter = 0 ∨ 8 < counter ∨ 6 < level →
      exec (.laneLevel lane tag counter level) s = .next (finish (Answer.bare .outOfRange) g)) ∧
    (1 ≤ counter → counter ≤ 8 → level ≤ 6 → drawWrite g = (false, u) →
      exec (.laneLevel lane tag counter level) s = .next (finish
        (Answer.ok (fieldBytes [(1, counter), (1, g.levelAt counter), (1, level)]))
        (u.withLqa { u.lqa with levels := put u.lqa.levels (counter - 1) level }))))

/-- ACK FAULT pops the newest entry and restores its saved level whatever SET HOLD has set since; with the cipher FAILED it runs the
retest, which passes and resets the counter or fails with a CIPHER_TEST judged after the pop; an empty stack is NOT_HELD. An event may fall
between the pop and the retest, and the CIPHER_TEST is judged on the stack as it leaves it: read from the worked example of chapter 09,
notes/assumptions/33. -/
def Obligations.AckFaultPops : Prop :=
  ∀ (lane tag : Nat) (s g : State), taken (.ackFault lane tag) s = some g →
    (g.fmn.stack = [] → exec (.ackFault lane tag) s = .next (finish (Answer.bare .notHeld) g)) ∧
    ∀ e rest, g.fmn.stack = e :: rest → ∀ p m : State, p = g.withFmn { g.fmn with hold := e.saved, stack := rest } → m = midEvent p →
      (g.tcu.passed = true →
        exec (.ackFault lane tag) s = .next (finish
          (Answer.ok (fieldBytes [(1, e.kind.code), (1, e.level), (1, e.saved), (1, rest.length), (1, 0), (1, if g.fmn.locked then 1 else 0)]))
          p)) ∧
      (g.tcu.passed = false →
        (m.env.testFails = [] →
          exec (.ackFault lane tag) s = .next (finish
            (Answer.ok (fieldBytes [(1, e.kind.code), (1, e.level), (1, m.fmn.hold), (1, m.fmn.stack.length), (1, 1),
              (1, if m.fmn.locked then 1 else 0)]))
            (m.withTcu ⟨true, 0⟩))) ∧
        ∀ more, m.env.testFails = true :: more → ∀ t : State,
          t = raise .cipherTest ((m.withEnv { m.env with testFails := more }).withTcu ⟨false, 0⟩) →
          exec (.ackFault lane tag) s = .next (finish
            (Answer.ok (fieldBytes [(1, e.kind.code), (1, e.level), (1, t.fmn.hold), (1, t.fmn.stack.length), (1, 2),
              (1, if t.fmn.locked then 1 else 0)])) t)) ∧
      (g.env.mid = [] → m = p) ∧
      ∀ k, g.env.mid = [(0, .fault k)] → m = (raise k p).withEnv { g.env with mid := [] }

/-- UNLOCK of a clear lock is OK and writes nothing; a stored key of 0 is CONFIG_LOCKED, another key than the stored one BAD_AUTHENTICATOR,
each changing nothing; the stored key clears the lock in one write and is kept, and a failed write leaves the lock set and is STORE_FAULT. -/
def Obligations.UnlockClears : Prop :=
  ∀ (lane tag key : Nat) (s g u : State),
    taken (.unlock lane tag key) s = some g →
      (g.fmn.configLock = false → exec (.unlock lane tag key) s = .next (finish (Answer.ok [0]) g)) ∧
      (g.fmn.configLock = true →
        (g.fmn.lockKey = 0 → exec (.unlock lane tag key) s = .next (finish (Answer.bare .configLocked) g)) ∧
        (g.fmn.lockKey ≠ 0 → BitVec.ofNat 64 key ≠ g.fmn.lockKey →
          exec (.unlock lane tag key) s = .next (finish (Answer.bare .badAuthenticator) g)) ∧
        (g.fmn.lockKey ≠ 0 → BitVec.ofNat 64 key = g.fmn.lockKey →
          (drawWrite g = (false, u) →
            exec (.unlock lane tag key) s = .next (finish (Answer.ok [0]) (u.withFmn { u.fmn with configLock := false }))) ∧
          (drawWrite g = (true, u) →
            exec (.unlock lane tag key) s = .next (finish (Answer.bare .storeFault) (raise .storeWrite u)))))

/-- LOCK sets a clear lock with the key given in one write and is CONFIG_LOCKED when it is set. While the lock is set, each of the eight
configuration requests is CONFIG_LOCKED as its first check and changes nothing. When the next retained write fails, a request whose work is
one write either made none, and then changed nothing, or is answered STORE_FAULT with a STORE_WRITE fault and nothing else changed. -/
def Obligations.ConfigurationLock : Prop :=
  (∀ (lane tag key : Nat) (s g u : State),
    taken (.lock lane tag key) s = some g →
      (g.fmn.configLock = true → exec (.lock lane tag key) s = .next (finish (Answer.bare .configLocked) g)) ∧
      (g.fmn.configLock = false → g.fmn.zeroisePending = true → exec (.lock lane tag key) s = .next (finish (Answer.bare .storeFault) g)) ∧
      (g.fmn.configLock = false → g.fmn.zeroisePending = false → drawWrite g = (false, u) → key < 2 ^ 64 →
        exec (.lock lane tag key) s = .next (finish (Answer.ok [if key = 0 then 1 else 0])
          (u.withFmn { u.fmn with configLock := true, lockKey := BitVec.ofNat 64 key })))) ∧
  (∀ (i : Instr) (s g : State), lockable i = true → taken i s = some g → g.fmn.configLock = true →
    exec i s = .next (finish (Answer.bare .configLocked) g)) ∧
  (∀ (i : Instr) (s g u : State), oneWrite i = true → taken i s = some g → drawWrite g = (true, u) →
    (∃ a, exec i s = .next (finish a g)) ∨ exec i s = .next (finish (Answer.bare .storeFault) (raise .storeWrite u)))

/-- A zeroise, by request, by the tamper input's assertion or by its retry, ERASES every slot, clears the lock and its key in one write and
ends its pending mark; by request or tamper it first voids every quote that is not ISSUING with note VOIDED: the accepted tenders leave the
reserved amount, the shadow slots join the free pool and a review tag restarts the counter. The request replies the lanes voided and the
amount released. A failed write raises STORE_WRITE and leaves it pending, with every slot reading ERASED, the voids made and the lock, its
key and the stored slots as they were; the request is then STORE_FAULT with the payload of OK. A held input starts none, and one without supply is only
noted. What the part without supply notes, that a retry needs a pending zeroise, and that the write ends the erasing writes still owed are
the model's choices: notes/assumptions/29, 3 and 14. -/
def Obligations.ZeroiseErases : Prop :=
  (∀ (lane tag : Nat) (s g : State), taken (.zeroise lane tag) s = some g →
    ∃ t, exec (.zeroise lane tag) s = .next (finish
        ⟨if g.env.storeFails.headD false then .storeFault else .ok,
          fieldBytes [(1, lanesMask (counterLanes.map fun k => (g.quoteAt k).any fun q => decide (q.state ≠ .issuing))),
            (4, g.flt.reserved - t.flt.reserved)], none⟩ t) ∧
      (g.env.storeFails.headD false = false → zeroised g t) ∧ (g.env.storeFails.headD false = true → zeroiseOwed g t) ∧ t.tamper = g.tamper) ∧
  ∀ s : State,
    (s.supply = true → s.tamper = false → s.startUp = .done → s.env.storeFails.headD false = false →
      ∃ t, exec .tamperZeroise s = .next t ∧ t.tamper = true ∧ zeroised s t) ∧
    (s.supply = true → s.tamper = false → s.startUp = .done → s.env.storeFails.headD false = true →
      ∃ t, exec .tamperZeroise s = .next t ∧ t.tamper = true ∧ zeroiseOwed s t) ∧
    (s.tamper = true → s.startUp = .done → exec .tamperZeroise s = .next s) ∧
    (s.supply = false → exec .tamperZeroise s = .next (s.withTamper true)) ∧
    exec .tamperReleased s = .next (s.withTamper false) ∧
    (s.supply = true → s.fmn.zeroisePending = true → s.startUp = .done → ∀ u,
      (drawWrite s = (false, u) →
        exec .zeroiseRetry s = .next ((u.withZks { u.zks with slots := Vector.replicate 16 .erased, erasing := [] }).withFmn
          { u.fmn with zeroisePending := false, configLock := false, lockKey := 0 })) ∧
      (drawWrite s = (true, u) → exec .zeroiseRetry s = .next (raise .storeWrite u)))

/-- STATUS, whenever it is taken, replies its 84 bytes and changes nothing, makes no cipher use and is served LOCKED or held: the part state,
the hold level and the stack's depth, the stack entries bottom first and the latest fault; the zeroise and lock marks, the cipher, the mode,
the balance, the reservation and the deadline with its passed mark; the clock, the boundary, the generation and the armed month; the
directory count and the pending change's kind and meter; the free pool; and each lane's level, queue depth and quote state. -/
def Obligations.StatusReports : Prop :=
  ∀ (lane tag : Nat) (s g : State), taken (.status lane tag) s = some g →
    (∀ k ∈ counterLanes, ∀ q, g.quoteAt k = some q → q.state ≠ .issuing) →
    ∃ payload, exec (.status lane tag) s = .next (finish (Answer.ok payload) g) ∧ payload.length = 84 ∧
      payload.take 3 = fieldBytes [(1, if g.fmn.locked then 1 else 0), (1, g.fmn.hold), (1, g.fmn.stack.length)] ∧
      (payload.drop 16).take 13 = fieldBytes [(1, if g.fmn.zeroisePending then 1 else 0), (1, if g.fmn.configLock then 1 else 0),
        (1, if g.fmn.lockKey = 0 then 1 else 0), (1, if g.tcu.passed then 0 else 1), (1, if g.restrictedMode then 1 else 0),
        (4, g.flt.balance), (4, g.flt.reserved)] ∧
      (∀ d, g.flt.deadline = some d → (payload.drop 29).take 5 = fieldBytes [(1, 1), (3, d), (1, if d ≤ g.clk.minute then 1 else 0)]) ∧
      (g.flt.deadline = none → (payload.drop 29).take 1 = [0] ∧ (payload.drop 33).take 1 = [0]) ∧
      (∀ i, i < 2 → (payload.drop (3 + 3 * i)).take 3 =
        ((g.fmn.stack.reverse[i]?).map fun e => fieldBytes [(1, e.saved), (1, e.kind.code), (1, e.level)]).getD [0, 0, 0]) ∧
      (g.fmn.latest = none → (payload.drop 9).take 7 = [0, 0, 0, 0, 0, 0, 0]) ∧
      (∀ l, g.fmn.latest = some l →
        (payload.drop 9).take 7 = fieldBytes [(1, 1), (1, l.kind.code), (1, l.level), (3, l.minute), (1, l.acted.code)]) ∧
      (∀ b, g.clk.boundary = some b → (payload.drop 40).take 4 = fieldBytes [(1, 1), (3, b)]) ∧
      (g.clk.boundary = none → (payload.drop 40).take 1 = [0]) ∧
      (∀ m, g.ttb.armed = some m → (payload.drop 46).take 3 = fieldBytes [(1, 1), (2, m)]) ∧
      (g.ttb.armed = none → (payload.drop 46).take 1 = [0]) ∧
      (g.dir.change = none → (payload.drop 51).take 6 = [0, 0, 0, 0, 0, 0]) ∧
      (∀ m slot q p c, g.dir.change = some (.enrolling m slot q p c) → (payload.drop 51).take 6 = fieldBytes [(1, 1), (5, m)]) ∧
      (∀ m slot c, g.dir.change = some (.retiring m slot c) → (payload.drop 51).take 6 = fieldBytes [(1, 2), (5, m)]) ∧
      (payload.drop 34).take 6 = fieldBytes [(3, g.clk.minute), (1, g.clk.second), (2, g.clk.month)] ∧
      (payload.drop 44).take 2 = beBytes 2 g.ttb.generation ∧ (payload.drop 49).take 2 = beBytes 2 g.dir.count ∧
      (payload.drop 57).take 2 = beBytes 2 g.ast.free.length ∧
      (∀ k ∈ counterLanes, (payload.drop (56 + 3 * k)).take 3 = fieldBytes [(1, g.levelAt k), (1, (g.queueAt k).length),
        (1, ((g.quoteAt k).map fun q => if q.state = .held then 2 else 1).getD 0)]) ∧
      payload.drop 83 = beBytes 1 (g.queueAt 0).length

/-- A power-on reset with the tamper input released, no pending change, no reached boundary and a sound cipher: every block takes its
power-on values, the free pool is what no entry names, and everything retained or battery-kept stands. Start-up zeroises when the tamper
input is asserted, completes a pending change, rebuilds the free pool from the completed directory, and rolls the month at a reached
boundary; a write that fails in it raises STORE_WRITE and holds it up, and its last step comes when no zeroise's write is owed. Loss of
supply keeps the same, and nothing is granted until a power-on reset. The order of the start-up, the marks of a noted deadline and of a
waiting roll, the shift register, the pool's order, the break's memory and what a part without supply holds are the model's choices:
notes/assumptions/9, 13, 19, 23, 27, 29, 32 and 34. -/
def Obligations.PowerOnReset : Prop :=
  ∀ s : State,
    (s.tamper = false → s.dir.change = none → s.env.testFails = [] → (∀ b, s.clk.boundary = some b → s.clk.minute < b) →
      ∃ t, exec .powerOnReset s = .next t ∧ t.supply = true ∧ t.startUp = .done ∧
        t.pending = s.pending ∧ t.env = s.env ∧ t.tamper = s.tamper ∧
        t.olk = ⟨⟨47, .even, 1⟩, none, none, .hunt, [], ⟨none, none, 0⟩, false⟩ ∧ t.serving = none ∧
        t.lqa = ⟨Vector.replicate 9 [], s.lqa.levels, Vector.replicate 8 .none, Vector.replicate 6 8⟩ ∧
        t.qtb.quotes = Vector.replicate 8 none ∧ (∃ v, v ≤ 7 ∧ t.qtb.review = .counting v) ∧
        t.qtb.period = s.qtb.period ∧ t.qtb.threshold = s.qtb.threshold ∧
        t.flt = { s.flt with reserved := 0, noted := s.deadlineReached } ∧ t.tcu = ⟨true, 0⟩ ∧
        t.fmn = ⟨0, [], false, none, false, s.fmn.configLock, s.fmn.lockKey⟩ ∧
        t.ast.slots = s.ast.slots ∧ (∀ n, n ∈ t.ast.free ↔ n < 4096 ∧ ∀ e ∈ s.dir.entries, e.slot ≠ n) ∧
        t.dir = s.dir ∧ t.zks = { s.zks with erasing := [] } ∧ t.ttb = s.ttb ∧ t.clk = { s.clk with rollWaiting := false }) ∧
    (s.env.storeFails = [] → s.env.testFails = [] → s.dir.ordered →
      ∃ t, exec .powerOnReset s = .next t ∧ t.supply = true ∧ t.startUp = .done ∧ t.dir = ⟨s.dir.listing, none⟩ ∧
        t.pending = s.pending ∧ t.env = s.env ∧ t.tamper = s.tamper ∧ t.serving = none ∧
        t.olk = ⟨⟨47, .even, 1⟩, none, none, .hunt, [], ⟨none, none, 0⟩, false⟩ ∧
        t.lqa = ⟨Vector.replicate 9 [], s.lqa.levels, Vector.replicate 8 .none, Vector.replicate 6 8⟩ ∧
        t.qtb.quotes = Vector.replicate 8 none ∧ (∃ v, v ≤ 7 ∧ t.qtb.review = .counting v) ∧ t.qtb.period = s.qtb.period ∧
        t.qtb.threshold = s.qtb.threshold ∧ t.flt = { s.flt with reserved := 0, noted := s.deadlineReached } ∧ t.zks.erasing = [] ∧
        (∀ n, n ∈ t.ast.free ↔ n < 4096 ∧ ∀ e ∈ s.dir.listing, e.slot ≠ n) ∧ t.ast.slots = s.ast.slots ∧ t.tcu = ⟨true, 0⟩ ∧
        t.zks.slots = (if s.tamper then Vector.replicate 16 .erased else s.zks.slots) ∧ t.zks.zones = s.zks.zones ∧
        t.fmn = (if s.tamper then ⟨0, [], false, none, false, false, 0⟩
          else ⟨0, [], false, none, false, s.fmn.configLock, s.fmn.lockKey⟩) ∧
        (s.clk.boundary.all (fun b => decide (s.clk.minute < b)) = true →
          t.clk = { s.clk with rollWaiting := false } ∧ t.ttb = s.ttb) ∧
        ∀ b, s.clk.boundary = some b → b ≤ s.clk.minute →
          t.clk = { s.clk with month := min (s.clk.month + 1) 4095, boundary := none, rollWaiting := false } ∧
          t.ttb = if s.clk.month < 4095 ∧ s.ttb.armed = some (s.clk.month + 1) then
            ⟨s.ttb.staged, s.ttb.active, none, (s.ttb.generation + 1) % 65536⟩ else s.ttb) ∧
    (s.env.storeFails.headD false = true → s.env.testFails = [] →
      s.tamper = true ∨ s.dir.change.isSome = true ∨ (∃ b, s.clk.boundary = some b ∧ b ≤ s.clk.minute) →
      ∃ t, exec .powerOnReset s = .next t ∧ t.startUp ≠ .done ∧ t.nextLane = none ∧ t.fmn.hold = 5 ∧ t.fmn.stack = [⟨0, .storeWrite, 5⟩]) ∧
    (∀ u, s.supply = true → s.startUp = .last → s.fmn.zeroisePending = true → s.clk.boundary.all (fun b => decide (s.clk.minute < b)) = true →
      drawWrite s = (false, u) → ∃ t, exec .zeroiseRetry s = .next t ∧ t.startUp = .done) ∧
    (∀ b, s.supply = true → s.startUp = .last → s.fmn.zeroisePending = true → s.clk.boundary = some b → b ≤ s.clk.minute →
      s.env.storeFails = [] → ∃ t, exec .zeroiseRetry s = .next t ∧ t.startUp = .done ∧ t.clk.boundary = none ∧
        t.clk.month = min (s.clk.month + 1) 4095) ∧
    (∀ c t, s.supply = false → c ≠ .powerOnReset → exec c s = .next t → t.supply = false ∧ t.nextLane = none) ∧
    ∃ t, exec .supplyLoss s = .next t ∧ t.supply = false ∧ t.nextLane = none ∧ t.pending = s.pending ∧ t.env = s.env ∧
      t.tamper = s.tamper ∧ t.ast = s.ast ∧ t.dir = s.dir ∧
      t.zks.zones = s.zks.zones ∧ t.zks.slots = s.zks.slots ∧ t.ttb = s.ttb ∧
      t.flt = { s.flt with reserved := 0, noted := s.deadlineReached } ∧ t.clk = { s.clk with rollWaiting := false } ∧
      t.lqa.levels = s.lqa.levels ∧ t.fmn.configLock = s.fmn.configLock ∧ t.fmn.lockKey = s.fmn.lockKey ∧
      t.qtb.period = s.qtb.period ∧ t.qtb.threshold = s.qtb.threshold

/-- Once LOCKED the part stays LOCKED until a power-on reset, whatever the command; only the loss of supply, which ends in one, ends it. -/
def Obligations.LockedUntilPowerOn : Prop :=
  ∀ (c : Instr) (s t : State), s.fmn.locked = true → c ≠ .powerOnReset → c ≠ .supplyLoss → exec c s = .next t → t.fmn.locked = true

/-! ### Reset, and what every step keeps -/

/-- The part right after reset: the factory state of its retained store with every power-on value, supply on and start-up done. Not the
spec's but the model's: that no command waits (notes/assumptions/30); that the cipher is PASSED, by a start-up self-test which nothing
upsets, and what the outside does (4, 5, 12, 23); the order of the free pool and that no slot is written (9, 11); the pins (20, 32); the
marks of a noted deadline and of a waiting roll (19, 27). -/
def Obligations.ResetValues : Prop :=
  State.reset.pending = [] ∧ State.reset.env = ⟨[], [], [], []⟩ ∧ State.reset.supply = true ∧ State.reset.startUp = .done ∧
  State.reset.tamper = false ∧ State.reset.serving = none ∧
  State.reset.olk = ⟨⟨47, .even, 1⟩, none, none, .hunt, [], ⟨none, none, 0⟩, false⟩ ∧
  (∀ k ∈ List.range 9, State.reset.queueAt k = []) ∧ (∀ k ∈ counterLanes, State.reset.levelAt k = 3 ∧ State.reset.noteAt k = .none) ∧
  (∀ v ∈ [1, 2, 3, 4, 5, 6], State.reset.pointerAt v = 8) ∧ (∀ k ∈ counterLanes, State.reset.quoteAt k = none) ∧
  (∃ v, v ≤ 7 ∧ State.reset.qtb.review = .counting v) ∧ State.reset.qtb.period = 0 ∧ State.reset.qtb.threshold = 0 ∧
  State.reset.dir = ⟨[], none⟩ ∧ State.reset.ast = ⟨[], List.range 4096⟩ ∧
  (∀ k ∈ List.range 16, State.reset.zoneAt k = ⟨.unused, 0, 0, 0, none, none⟩ ∧ State.reset.slotAt k = .empty) ∧
  State.reset.zks.erasing = [] ∧ State.reset.tcu = ⟨true, 0⟩ ∧
  State.reset.ttb = ⟨Vector.replicate 16 none, Vector.replicate 16 none, none, 0⟩ ∧
  State.reset.flt = ⟨0, 0, 50000000, 5000, 180, none, false, 0, 0, ⟨0, 0, 0, 0, 0, 0⟩, none⟩ ∧
  State.reset.clk = ⟨0, 0, 0, none, false⟩ ∧ State.reset.fmn = ⟨0, [], false, none, false, false, 0⟩

/-- The state after reset meets each of the invariants that every step keeps. -/
def Obligations.ResetMeetsInvariants : Prop :=
  State.reset.steady ∧ State.reset.floatLaw ∧ State.reset.dir.ordered ∧ State.reset.clk.bounded

/-- Every step, from every state that meets them, keeps the bounds of the part: no request half served, at most two stacked holds and hold
levels 0 to 6, four requests to a lane and sixteen replies, lane levels and pointers in range, at most 256 uses between self-tests, and the
account store's canonical form.
The bounds are the model's gathering of the spec's ranges. -/
def Obligations.StepKeepsSteady : Prop :=
  ∀ s t : State, s.steady → Machine.step s = .next t → t.steady

/-- Every step keeps the float's law: reserved is the sum of the accepted tenders of the quotes in the table, and reserved, balance and
ceiling stand in order. -/
def Obligations.StepKeepsFloatLaw : Prop :=
  ∀ s t : State, s.floatLaw → Machine.step s = .next t → t.floatLaw

/-- Every step keeps the directory in order: its entries in strictly ascending meter order with the pending change fitting between them,
and at most 4000 of them with a pending enrolment. -/
def Obligations.StepKeepsDirectoryOrder : Prop :=
  ∀ s t : State, s.dir.ordered → Machine.step s = .next t → t.dir.ordered

end Statements
end

