-- ==== Sys2Proof/Laws/State.lean ====
section
/-! SUPPORT. One lemma per field per update of the state, true by rfl; and what two updates of one field come to. -/

namespace Sys2Proof.Machine

@[simp] theorem State.withPending_pending (s : State) (v : List Instr) : (s.withPending v).pending = v := rfl
@[simp] theorem State.withPending_env (s : State) (v : List Instr) : (s.withPending v).env = s.env := rfl
@[simp] theorem State.withPending_freeReads (s : State) (v : List Instr) : (s.withPending v).freeReads = s.freeReads := rfl
@[simp] theorem State.withPending_supply (s : State) (v : List Instr) : (s.withPending v).supply = s.supply := rfl
@[simp] theorem State.withPending_startUp (s : State) (v : List Instr) : (s.withPending v).startUp = s.startUp := rfl
@[simp] theorem State.withPending_tamper (s : State) (v : List Instr) : (s.withPending v).tamper = s.tamper := rfl
@[simp] theorem State.withPending_olk (s : State) (v : List Instr) : (s.withPending v).olk = s.olk := rfl
@[simp] theorem State.withPending_lqa (s : State) (v : List Instr) : (s.withPending v).lqa = s.lqa := rfl
@[simp] theorem State.withPending_serving (s : State) (v : List Instr) : (s.withPending v).serving = s.serving := rfl
@[simp] theorem State.withPending_ast (s : State) (v : List Instr) : (s.withPending v).ast = s.ast := rfl
@[simp] theorem State.withPending_dir (s : State) (v : List Instr) : (s.withPending v).dir = s.dir := rfl
@[simp] theorem State.withPending_qtb (s : State) (v : List Instr) : (s.withPending v).qtb = s.qtb := rfl
@[simp] theorem State.withPending_zks (s : State) (v : List Instr) : (s.withPending v).zks = s.zks := rfl
@[simp] theorem State.withPending_tcu (s : State) (v : List Instr) : (s.withPending v).tcu = s.tcu := rfl
@[simp] theorem State.withPending_ttb (s : State) (v : List Instr) : (s.withPending v).ttb = s.ttb := rfl
@[simp] theorem State.withPending_flt (s : State) (v : List Instr) : (s.withPending v).flt = s.flt := rfl
@[simp] theorem State.withPending_clk (s : State) (v : List Instr) : (s.withPending v).clk = s.clk := rfl
@[simp] theorem State.withPending_fmn (s : State) (v : List Instr) : (s.withPending v).fmn = s.fmn := rfl
@[simp] theorem State.withPending_withPending (s : State) (v w : List Instr) : (s.withPending v).withPending w = s.withPending w := rfl
@[simp] theorem State.withPending_self (s : State) : s.withPending s.pending = s := rfl
@[simp] theorem State.withEnv_pending (s : State) (v : Env) : (s.withEnv v).pending = s.pending := rfl
@[simp] theorem State.withEnv_env (s : State) (v : Env) : (s.withEnv v).env = v := rfl
@[simp] theorem State.withEnv_freeReads (s : State) (v : Env) : (s.withEnv v).freeReads = s.freeReads := rfl
@[simp] theorem State.withEnv_supply (s : State) (v : Env) : (s.withEnv v).supply = s.supply := rfl
@[simp] theorem State.withEnv_startUp (s : State) (v : Env) : (s.withEnv v).startUp = s.startUp := rfl
@[simp] theorem State.withEnv_tamper (s : State) (v : Env) : (s.withEnv v).tamper = s.tamper := rfl
@[simp] theorem State.withEnv_olk (s : State) (v : Env) : (s.withEnv v).olk = s.olk := rfl
@[simp] theorem State.withEnv_lqa (s : State) (v : Env) : (s.withEnv v).lqa = s.lqa := rfl
@[simp] theorem State.withEnv_serving (s : State) (v : Env) : (s.withEnv v).serving = s.serving := rfl
@[simp] theorem State.withEnv_ast (s : State) (v : Env) : (s.withEnv v).ast = s.ast := rfl
@[simp] theorem State.withEnv_dir (s : State) (v : Env) : (s.withEnv v).dir = s.dir := rfl
@[simp] theorem State.withEnv_qtb (s : State) (v : Env) : (s.withEnv v).qtb = s.qtb := rfl
@[simp] theorem State.withEnv_zks (s : State) (v : Env) : (s.withEnv v).zks = s.zks := rfl
@[simp] theorem State.withEnv_tcu (s : State) (v : Env) : (s.withEnv v).tcu = s.tcu := rfl
@[simp] theorem State.withEnv_ttb (s : State) (v : Env) : (s.withEnv v).ttb = s.ttb := rfl
@[simp] theorem State.withEnv_flt (s : State) (v : Env) : (s.withEnv v).flt = s.flt := rfl
@[simp] theorem State.withEnv_clk (s : State) (v : Env) : (s.withEnv v).clk = s.clk := rfl
@[simp] theorem State.withEnv_fmn (s : State) (v : Env) : (s.withEnv v).fmn = s.fmn := rfl
@[simp] theorem State.withEnv_withEnv (s : State) (v w : Env) : (s.withEnv v).withEnv w = s.withEnv w := rfl
@[simp] theorem State.withEnv_self (s : State) : s.withEnv s.env = s := rfl
@[simp] theorem State.withFreeReads_pending (s : State) (v : Nat) : (s.withFreeReads v).pending = s.pending := rfl
@[simp] theorem State.withFreeReads_env (s : State) (v : Nat) : (s.withFreeReads v).env = s.env := rfl
@[simp] theorem State.withFreeReads_freeReads (s : State) (v : Nat) : (s.withFreeReads v).freeReads = v := rfl
@[simp] theorem State.withFreeReads_supply (s : State) (v : Nat) : (s.withFreeReads v).supply = s.supply := rfl
@[simp] theorem State.withFreeReads_startUp (s : State) (v : Nat) : (s.withFreeReads v).startUp = s.startUp := rfl
@[simp] theorem State.withFreeReads_tamper (s : State) (v : Nat) : (s.withFreeReads v).tamper = s.tamper := rfl
@[simp] theorem State.withFreeReads_olk (s : State) (v : Nat) : (s.withFreeReads v).olk = s.olk := rfl
@[simp] theorem State.withFreeReads_lqa (s : State) (v : Nat) : (s.withFreeReads v).lqa = s.lqa := rfl
@[simp] theorem State.withFreeReads_serving (s : State) (v : Nat) : (s.withFreeReads v).serving = s.serving := rfl
@[simp] theorem State.withFreeReads_ast (s : State) (v : Nat) : (s.withFreeReads v).ast = s.ast := rfl
@[simp] theorem State.withFreeReads_dir (s : State) (v : Nat) : (s.withFreeReads v).dir = s.dir := rfl
@[simp] theorem State.withFreeReads_qtb (s : State) (v : Nat) : (s.withFreeReads v).qtb = s.qtb := rfl
@[simp] theorem State.withFreeReads_zks (s : State) (v : Nat) : (s.withFreeReads v).zks = s.zks := rfl
@[simp] theorem State.withFreeReads_tcu (s : State) (v : Nat) : (s.withFreeReads v).tcu = s.tcu := rfl
@[simp] theorem State.withFreeReads_ttb (s : State) (v : Nat) : (s.withFreeReads v).ttb = s.ttb := rfl
@[simp] theorem State.withFreeReads_flt (s : State) (v : Nat) : (s.withFreeReads v).flt = s.flt := rfl
@[simp] theorem State.withFreeReads_clk (s : State) (v : Nat) : (s.withFreeReads v).clk = s.clk := rfl
@[simp] theorem State.withFreeReads_fmn (s : State) (v : Nat) : (s.withFreeReads v).fmn = s.fmn := rfl
@[simp] theorem State.withFreeReads_withFreeReads (s : State) (v w : Nat) : (s.withFreeReads v).withFreeReads w = s.withFreeReads w := rfl
@[simp] theorem State.withFreeReads_self (s : State) : s.withFreeReads s.freeReads = s := rfl
@[simp] theorem State.withSupply_pending (s : State) (v : Bool) : (s.withSupply v).pending = s.pending := rfl
@[simp] theorem State.withSupply_env (s : State) (v : Bool) : (s.withSupply v).env = s.env := rfl
@[simp] theorem State.withSupply_freeReads (s : State) (v : Bool) : (s.withSupply v).freeReads = s.freeReads := rfl
@[simp] theorem State.withSupply_supply (s : State) (v : Bool) : (s.withSupply v).supply = v := rfl
@[simp] theorem State.withSupply_startUp (s : State) (v : Bool) : (s.withSupply v).startUp = s.startUp := rfl
@[simp] theorem State.withSupply_tamper (s : State) (v : Bool) : (s.withSupply v).tamper = s.tamper := rfl
@[simp] theorem State.withSupply_olk (s : State) (v : Bool) : (s.withSupply v).olk = s.olk := rfl
@[simp] theorem State.withSupply_lqa (s : State) (v : Bool) : (s.withSupply v).lqa = s.lqa := rfl
@[simp] theorem State.withSupply_serving (s : State) (v : Bool) : (s.withSupply v).serving = s.serving := rfl
@[simp] theorem State.withSupply_ast (s : State) (v : Bool) : (s.withSupply v).ast = s.ast := rfl
@[simp] theorem State.withSupply_dir (s : State) (v : Bool) : (s.withSupply v).dir = s.dir := rfl
@[simp] theorem State.withSupply_qtb (s : State) (v : Bool) : (s.withSupply v).qtb = s.qtb := rfl
@[simp] theorem State.withSupply_zks (s : State) (v : Bool) : (s.withSupply v).zks = s.zks := rfl
@[simp] theorem State.withSupply_tcu (s : State) (v : Bool) : (s.withSupply v).tcu = s.tcu := rfl
@[simp] theorem State.withSupply_ttb (s : State) (v : Bool) : (s.withSupply v).ttb = s.ttb := rfl
@[simp] theorem State.withSupply_flt (s : State) (v : Bool) : (s.withSupply v).flt = s.flt := rfl
@[simp] theorem State.withSupply_clk (s : State) (v : Bool) : (s.withSupply v).clk = s.clk := rfl
@[simp] theorem State.withSupply_fmn (s : State) (v : Bool) : (s.withSupply v).fmn = s.fmn := rfl
@[simp] theorem State.withSupply_withSupply (s : State) (v w : Bool) : (s.withSupply v).withSupply w = s.withSupply w := rfl
@[simp] theorem State.withSupply_self (s : State) : s.withSupply s.supply = s := rfl
@[simp] theorem State.withStartUp_pending (s : State) (v : StartUp) : (s.withStartUp v).pending = s.pending := rfl
@[simp] theorem State.withStartUp_env (s : State) (v : StartUp) : (s.withStartUp v).env = s.env := rfl
@[simp] theorem State.withStartUp_freeReads (s : State) (v : StartUp) : (s.withStartUp v).freeReads = s.freeReads := rfl
@[simp] theorem State.withStartUp_supply (s : State) (v : StartUp) : (s.withStartUp v).supply = s.supply := rfl
@[simp] theorem State.withStartUp_startUp (s : State) (v : StartUp) : (s.withStartUp v).startUp = v := rfl
@[simp] theorem State.withStartUp_tamper (s : State) (v : StartUp) : (s.withStartUp v).tamper = s.tamper := rfl
@[simp] theorem State.withStartUp_olk (s : State) (v : StartUp) : (s.withStartUp v).olk = s.olk := rfl
@[simp] theorem State.withStartUp_lqa (s : State) (v : StartUp) : (s.withStartUp v).lqa = s.lqa := rfl
@[simp] theorem State.withStartUp_serving (s : State) (v : StartUp) : (s.withStartUp v).serving = s.serving := rfl
@[simp] theorem State.withStartUp_ast (s : State) (v : StartUp) : (s.withStartUp v).ast = s.ast := rfl
@[simp] theorem State.withStartUp_dir (s : State) (v : StartUp) : (s.withStartUp v).dir = s.dir := rfl
@[simp] theorem State.withStartUp_qtb (s : State) (v : StartUp) : (s.withStartUp v).qtb = s.qtb := rfl
@[simp] theorem State.withStartUp_zks (s : State) (v : StartUp) : (s.withStartUp v).zks = s.zks := rfl
@[simp] theorem State.withStartUp_tcu (s : State) (v : StartUp) : (s.withStartUp v).tcu = s.tcu := rfl
@[simp] theorem State.withStartUp_ttb (s : State) (v : StartUp) : (s.withStartUp v).ttb = s.ttb := rfl
@[simp] theorem State.withStartUp_flt (s : State) (v : StartUp) : (s.withStartUp v).flt = s.flt := rfl
@[simp] theorem State.withStartUp_clk (s : State) (v : StartUp) : (s.withStartUp v).clk = s.clk := rfl
@[simp] theorem State.withStartUp_fmn (s : State) (v : StartUp) : (s.withStartUp v).fmn = s.fmn := rfl
@[simp] theorem State.withStartUp_withStartUp (s : State) (v w : StartUp) : (s.withStartUp v).withStartUp w = s.withStartUp w := rfl
@[simp] theorem State.withStartUp_self (s : State) : s.withStartUp s.startUp = s := rfl
@[simp] theorem State.withTamper_pending (s : State) (v : Bool) : (s.withTamper v).pending = s.pending := rfl
@[simp] theorem State.withTamper_env (s : State) (v : Bool) : (s.withTamper v).env = s.env := rfl
@[simp] theorem State.withTamper_freeReads (s : State) (v : Bool) : (s.withTamper v).freeReads = s.freeReads := rfl
@[simp] theorem State.withTamper_supply (s : State) (v : Bool) : (s.withTamper v).supply = s.supply := rfl
@[simp] theorem State.withTamper_startUp (s : State) (v : Bool) : (s.withTamper v).startUp = s.startUp := rfl
@[simp] theorem State.withTamper_tamper (s : State) (v : Bool) : (s.withTamper v).tamper = v := rfl
@[simp] theorem State.withTamper_olk (s : State) (v : Bool) : (s.withTamper v).olk = s.olk := rfl
@[simp] theorem State.withTamper_lqa (s : State) (v : Bool) : (s.withTamper v).lqa = s.lqa := rfl
@[simp] theorem State.withTamper_serving (s : State) (v : Bool) : (s.withTamper v).serving = s.serving := rfl
@[simp] theorem State.withTamper_ast (s : State) (v : Bool) : (s.withTamper v).ast = s.ast := rfl
@[simp] theorem State.withTamper_dir (s : State) (v : Bool) : (s.withTamper v).dir = s.dir := rfl
@[simp] theorem State.withTamper_qtb (s : State) (v : Bool) : (s.withTamper v).qtb = s.qtb := rfl
@[simp] theorem State.withTamper_zks (s : State) (v : Bool) : (s.withTamper v).zks = s.zks := rfl
@[simp] theorem State.withTamper_tcu (s : State) (v : Bool) : (s.withTamper v).tcu = s.tcu := rfl
@[simp] theorem State.withTamper_ttb (s : State) (v : Bool) : (s.withTamper v).ttb = s.ttb := rfl
@[simp] theorem State.withTamper_flt (s : State) (v : Bool) : (s.withTamper v).flt = s.flt := rfl
@[simp] theorem State.withTamper_clk (s : State) (v : Bool) : (s.withTamper v).clk = s.clk := rfl
@[simp] theorem State.withTamper_fmn (s : State) (v : Bool) : (s.withTamper v).fmn = s.fmn := rfl
@[simp] theorem State.withTamper_withTamper (s : State) (v w : Bool) : (s.withTamper v).withTamper w = s.withTamper w := rfl
@[simp] theorem State.withTamper_self (s : State) : s.withTamper s.tamper = s := rfl
@[simp] theorem State.withOlk_pending (s : State) (v : Olk) : (s.withOlk v).pending = s.pending := rfl
@[simp] theorem State.withOlk_env (s : State) (v : Olk) : (s.withOlk v).env = s.env := rfl
@[simp] theorem State.withOlk_freeReads (s : State) (v : Olk) : (s.withOlk v).freeReads = s.freeReads := rfl
@[simp] theorem State.withOlk_supply (s : State) (v : Olk) : (s.withOlk v).supply = s.supply := rfl
@[simp] theorem State.withOlk_startUp (s : State) (v : Olk) : (s.withOlk v).startUp = s.startUp := rfl
@[simp] theorem State.withOlk_tamper (s : State) (v : Olk) : (s.withOlk v).tamper = s.tamper := rfl
@[simp] theorem State.withOlk_olk (s : State) (v : Olk) : (s.withOlk v).olk = v := rfl
@[simp] theorem State.withOlk_lqa (s : State) (v : Olk) : (s.withOlk v).lqa = s.lqa := rfl
@[simp] theorem State.withOlk_serving (s : State) (v : Olk) : (s.withOlk v).serving = s.serving := rfl
@[simp] theorem State.withOlk_ast (s : State) (v : Olk) : (s.withOlk v).ast = s.ast := rfl
@[simp] theorem State.withOlk_dir (s : State) (v : Olk) : (s.withOlk v).dir = s.dir := rfl
@[simp] theorem State.withOlk_qtb (s : State) (v : Olk) : (s.withOlk v).qtb = s.qtb := rfl
@[simp] theorem State.withOlk_zks (s : State) (v : Olk) : (s.withOlk v).zks = s.zks := rfl
@[simp] theorem State.withOlk_tcu (s : State) (v : Olk) : (s.withOlk v).tcu = s.tcu := rfl
@[simp] theorem State.withOlk_ttb (s : State) (v : Olk) : (s.withOlk v).ttb = s.ttb := rfl
@[simp] theorem State.withOlk_flt (s : State) (v : Olk) : (s.withOlk v).flt = s.flt := rfl
@[simp] theorem State.withOlk_clk (s : State) (v : Olk) : (s.withOlk v).clk = s.clk := rfl
@[simp] theorem State.withOlk_fmn (s : State) (v : Olk) : (s.withOlk v).fmn = s.fmn := rfl
@[simp] theorem State.withOlk_withOlk (s : State) (v w : Olk) : (s.withOlk v).withOlk w = s.withOlk w := rfl
@[simp] theorem State.withOlk_self (s : State) : s.withOlk s.olk = s := rfl
@[simp] theorem State.withLqa_pending (s : State) (v : Lqa) : (s.withLqa v).pending = s.pending := rfl
@[simp] theorem State.withLqa_env (s : State) (v : Lqa) : (s.withLqa v).env = s.env := rfl
@[simp] theorem State.withLqa_freeReads (s : State) (v : Lqa) : (s.withLqa v).freeReads = s.freeReads := rfl
@[simp] theorem State.withLqa_supply (s : State) (v : Lqa) : (s.withLqa v).supply = s.supply := rfl
@[simp] theorem State.withLqa_startUp (s : State) (v : Lqa) : (s.withLqa v).startUp = s.startUp := rfl
@[simp] theorem State.withLqa_tamper (s : State) (v : Lqa) : (s.withLqa v).tamper = s.tamper := rfl
@[simp] theorem State.withLqa_olk (s : State) (v : Lqa) : (s.withLqa v).olk = s.olk := rfl
@[simp] theorem State.withLqa_lqa (s : State) (v : Lqa) : (s.withLqa v).lqa = v := rfl
@[simp] theorem State.withLqa_serving (s : State) (v : Lqa) : (s.withLqa v).serving = s.serving := rfl
@[simp] theorem State.withLqa_ast (s : State) (v : Lqa) : (s.withLqa v).ast = s.ast := rfl
@[simp] theorem State.withLqa_dir (s : State) (v : Lqa) : (s.withLqa v).dir = s.dir := rfl
@[simp] theorem State.withLqa_qtb (s : State) (v : Lqa) : (s.withLqa v).qtb = s.qtb := rfl
@[simp] theorem State.withLqa_zks (s : State) (v : Lqa) : (s.withLqa v).zks = s.zks := rfl
@[simp] theorem State.withLqa_tcu (s : State) (v : Lqa) : (s.withLqa v).tcu = s.tcu := rfl
@[simp] theorem State.withLqa_ttb (s : State) (v : Lqa) : (s.withLqa v).ttb = s.ttb := rfl
@[simp] theorem State.withLqa_flt (s : State) (v : Lqa) : (s.withLqa v).flt = s.flt := rfl
@[simp] theorem State.withLqa_clk (s : State) (v : Lqa) : (s.withLqa v).clk = s.clk := rfl
@[simp] theorem State.withLqa_fmn (s : State) (v : Lqa) : (s.withLqa v).fmn = s.fmn := rfl
@[simp] theorem State.withLqa_withLqa (s : State) (v w : Lqa) : (s.withLqa v).withLqa w = s.withLqa w := rfl
@[simp] theorem State.withLqa_self (s : State) : s.withLqa s.lqa = s := rfl
@[simp] theorem State.withServing_pending (s : State) (v : Option Serving) : (s.withServing v).pending = s.pending := rfl
@[simp] theorem State.withServing_env (s : State) (v : Option Serving) : (s.withServing v).env = s.env := rfl
@[simp] theorem State.withServing_freeReads (s : State) (v : Option Serving) : (s.withServing v).freeReads = s.freeReads := rfl
@[simp] theorem State.withServing_supply (s : State) (v : Option Serving) : (s.withServing v).supply = s.supply := rfl
@[simp] theorem State.withServing_startUp (s : State) (v : Option Serving) : (s.withServing v).startUp = s.startUp := rfl
@[simp] theorem State.withServing_tamper (s : State) (v : Option Serving) : (s.withServing v).tamper = s.tamper := rfl
@[simp] theorem State.withServing_olk (s : State) (v : Option Serving) : (s.withServing v).olk = s.olk := rfl
@[simp] theorem State.withServing_lqa (s : State) (v : Option Serving) : (s.withServing v).lqa = s.lqa := rfl
@[simp] theorem State.withServing_serving (s : State) (v : Option Serving) : (s.withServing v).serving = v := rfl
@[simp] theorem State.withServing_ast (s : State) (v : Option Serving) : (s.withServing v).ast = s.ast := rfl
@[simp] theorem State.withServing_dir (s : State) (v : Option Serving) : (s.withServing v).dir = s.dir := rfl
@[simp] theorem State.withServing_qtb (s : State) (v : Option Serving) : (s.withServing v).qtb = s.qtb := rfl
@[simp] theorem State.withServing_zks (s : State) (v : Option Serving) : (s.withServing v).zks = s.zks := rfl
@[simp] theorem State.withServing_tcu (s : State) (v : Option Serving) : (s.withServing v).tcu = s.tcu := rfl
@[simp] theorem State.withServing_ttb (s : State) (v : Option Serving) : (s.withServing v).ttb = s.ttb := rfl
@[simp] theorem State.withServing_flt (s : State) (v : Option Serving) : (s.withServing v).flt = s.flt := rfl
@[simp] theorem State.withServing_clk (s : State) (v : Option Serving) : (s.withServing v).clk = s.clk := rfl
@[simp] theorem State.withServing_fmn (s : State) (v : Option Serving) : (s.withServing v).fmn = s.fmn := rfl
@[simp] theorem State.withServing_withServing (s : State) (v w : Option Serving) : (s.withServing v).withServing w = s.withServing w := rfl
@[simp] theorem State.withServing_self (s : State) : s.withServing s.serving = s := rfl
@[simp] theorem State.withAst_pending (s : State) (v : Ast) : (s.withAst v).pending = s.pending := rfl
@[simp] theorem State.withAst_env (s : State) (v : Ast) : (s.withAst v).env = s.env := rfl
@[simp] theorem State.withAst_freeReads (s : State) (v : Ast) : (s.withAst v).freeReads = s.freeReads := rfl
@[simp] theorem State.withAst_supply (s : State) (v : Ast) : (s.withAst v).supply = s.supply := rfl
@[simp] theorem State.withAst_startUp (s : State) (v : Ast) : (s.withAst v).startUp = s.startUp := rfl
@[simp] theorem State.withAst_tamper (s : State) (v : Ast) : (s.withAst v).tamper = s.tamper := rfl
@[simp] theorem State.withAst_olk (s : State) (v : Ast) : (s.withAst v).olk = s.olk := rfl
@[simp] theorem State.withAst_lqa (s : State) (v : Ast) : (s.withAst v).lqa = s.lqa := rfl
@[simp] theorem State.withAst_serving (s : State) (v : Ast) : (s.withAst v).serving = s.serving := rfl
@[simp] theorem State.withAst_ast (s : State) (v : Ast) : (s.withAst v).ast = v := rfl
@[simp] theorem State.withAst_dir (s : State) (v : Ast) : (s.withAst v).dir = s.dir := rfl
@[simp] theorem State.withAst_qtb (s : State) (v : Ast) : (s.withAst v).qtb = s.qtb := rfl
@[simp] theorem State.withAst_zks (s : State) (v : Ast) : (s.withAst v).zks = s.zks := rfl
@[simp] theorem State.withAst_tcu (s : State) (v : Ast) : (s.withAst v).tcu = s.tcu := rfl
@[simp] theorem State.withAst_ttb (s : State) (v : Ast) : (s.withAst v).ttb = s.ttb := rfl
@[simp] theorem State.withAst_flt (s : State) (v : Ast) : (s.withAst v).flt = s.flt := rfl
@[simp] theorem State.withAst_clk (s : State) (v : Ast) : (s.withAst v).clk = s.clk := rfl
@[simp] theorem State.withAst_fmn (s : State) (v : Ast) : (s.withAst v).fmn = s.fmn := rfl
@[simp] theorem State.withAst_withAst (s : State) (v w : Ast) : (s.withAst v).withAst w = s.withAst w := rfl
@[simp] theorem State.withAst_self (s : State) : s.withAst s.ast = s := rfl
@[simp] theorem State.withDir_pending (s : State) (v : Dir) : (s.withDir v).pending = s.pending := rfl
@[simp] theorem State.withDir_env (s : State) (v : Dir) : (s.withDir v).env = s.env := rfl
@[simp] theorem State.withDir_freeReads (s : State) (v : Dir) : (s.withDir v).freeReads = s.freeReads := rfl
@[simp] theorem State.withDir_supply (s : State) (v : Dir) : (s.withDir v).supply = s.supply := rfl
@[simp] theorem State.withDir_startUp (s : State) (v : Dir) : (s.withDir v).startUp = s.startUp := rfl
@[simp] theorem State.withDir_tamper (s : State) (v : Dir) : (s.withDir v).tamper = s.tamper := rfl
@[simp] theorem State.withDir_olk (s : State) (v : Dir) : (s.withDir v).olk = s.olk := rfl
@[simp] theorem State.withDir_lqa (s : State) (v : Dir) : (s.withDir v).lqa = s.lqa := rfl
@[simp] theorem State.withDir_serving (s : State) (v : Dir) : (s.withDir v).serving = s.serving := rfl
@[simp] theorem State.withDir_ast (s : State) (v : Dir) : (s.withDir v).ast = s.ast := rfl
@[simp] theorem State.withDir_dir (s : State) (v : Dir) : (s.withDir v).dir = v := rfl
@[simp] theorem State.withDir_qtb (s : State) (v : Dir) : (s.withDir v).qtb = s.qtb := rfl
@[simp] theorem State.withDir_zks (s : State) (v : Dir) : (s.withDir v).zks = s.zks := rfl
@[simp] theorem State.withDir_tcu (s : State) (v : Dir) : (s.withDir v).tcu = s.tcu := rfl
@[simp] theorem State.withDir_ttb (s : State) (v : Dir) : (s.withDir v).ttb = s.ttb := rfl
@[simp] theorem State.withDir_flt (s : State) (v : Dir) : (s.withDir v).flt = s.flt := rfl
@[simp] theorem State.withDir_clk (s : State) (v : Dir) : (s.withDir v).clk = s.clk := rfl
@[simp] theorem State.withDir_fmn (s : State) (v : Dir) : (s.withDir v).fmn = s.fmn := rfl
@[simp] theorem State.withDir_withDir (s : State) (v w : Dir) : (s.withDir v).withDir w = s.withDir w := rfl
@[simp] theorem State.withDir_self (s : State) : s.withDir s.dir = s := rfl
@[simp] theorem State.withQtb_pending (s : State) (v : Qtb) : (s.withQtb v).pending = s.pending := rfl
@[simp] theorem State.withQtb_env (s : State) (v : Qtb) : (s.withQtb v).env = s.env := rfl
@[simp] theorem State.withQtb_freeReads (s : State) (v : Qtb) : (s.withQtb v).freeReads = s.freeReads := rfl
@[simp] theorem State.withQtb_supply (s : State) (v : Qtb) : (s.withQtb v).supply = s.supply := rfl
@[simp] theorem State.withQtb_startUp (s : State) (v : Qtb) : (s.withQtb v).startUp = s.startUp := rfl
@[simp] theorem State.withQtb_tamper (s : State) (v : Qtb) : (s.withQtb v).tamper = s.tamper := rfl
@[simp] theorem State.withQtb_olk (s : State) (v : Qtb) : (s.withQtb v).olk = s.olk := rfl
@[simp] theorem State.withQtb_lqa (s : State) (v : Qtb) : (s.withQtb v).lqa = s.lqa := rfl
@[simp] theorem State.withQtb_serving (s : State) (v : Qtb) : (s.withQtb v).serving = s.serving := rfl
@[simp] theorem State.withQtb_ast (s : State) (v : Qtb) : (s.withQtb v).ast = s.ast := rfl
@[simp] theorem State.withQtb_dir (s : State) (v : Qtb) : (s.withQtb v).dir = s.dir := rfl
@[simp] theorem State.withQtb_qtb (s : State) (v : Qtb) : (s.withQtb v).qtb = v := rfl
@[simp] theorem State.withQtb_zks (s : State) (v : Qtb) : (s.withQtb v).zks = s.zks := rfl
@[simp] theorem State.withQtb_tcu (s : State) (v : Qtb) : (s.withQtb v).tcu = s.tcu := rfl
@[simp] theorem State.withQtb_ttb (s : State) (v : Qtb) : (s.withQtb v).ttb = s.ttb := rfl
@[simp] theorem State.withQtb_flt (s : State) (v : Qtb) : (s.withQtb v).flt = s.flt := rfl
@[simp] theorem State.withQtb_clk (s : State) (v : Qtb) : (s.withQtb v).clk = s.clk := rfl
@[simp] theorem State.withQtb_fmn (s : State) (v : Qtb) : (s.withQtb v).fmn = s.fmn := rfl
@[simp] theorem State.withQtb_withQtb (s : State) (v w : Qtb) : (s.withQtb v).withQtb w = s.withQtb w := rfl
@[simp] theorem State.withQtb_self (s : State) : s.withQtb s.qtb = s := rfl
@[simp] theorem State.withZks_pending (s : State) (v : Zks) : (s.withZks v).pending = s.pending := rfl
@[simp] theorem State.withZks_env (s : State) (v : Zks) : (s.withZks v).env = s.env := rfl
@[simp] theorem State.withZks_freeReads (s : State) (v : Zks) : (s.withZks v).freeReads = s.freeReads := rfl
@[simp] theorem State.withZks_supply (s : State) (v : Zks) : (s.withZks v).supply = s.supply := rfl
@[simp] theorem State.withZks_startUp (s : State) (v : Zks) : (s.withZks v).startUp = s.startUp := rfl
@[simp] theorem State.withZks_tamper (s : State) (v : Zks) : (s.withZks v).tamper = s.tamper := rfl
@[simp] theorem State.withZks_olk (s : State) (v : Zks) : (s.withZks v).olk = s.olk := rfl
@[simp] theorem State.withZks_lqa (s : State) (v : Zks) : (s.withZks v).lqa = s.lqa := rfl
@[simp] theorem State.withZks_serving (s : State) (v : Zks) : (s.withZks v).serving = s.serving := rfl
@[simp] theorem State.withZks_ast (s : State) (v : Zks) : (s.withZks v).ast = s.ast := rfl
@[simp] theorem State.withZks_dir (s : State) (v : Zks) : (s.withZks v).dir = s.dir := rfl
@[simp] theorem State.withZks_qtb (s : State) (v : Zks) : (s.withZks v).qtb = s.qtb := rfl
@[simp] theorem State.withZks_zks (s : State) (v : Zks) : (s.withZks v).zks = v := rfl
@[simp] theorem State.withZks_tcu (s : State) (v : Zks) : (s.withZks v).tcu = s.tcu := rfl
@[simp] theorem State.withZks_ttb (s : State) (v : Zks) : (s.withZks v).ttb = s.ttb := rfl
@[simp] theorem State.withZks_flt (s : State) (v : Zks) : (s.withZks v).flt = s.flt := rfl
@[simp] theorem State.withZks_clk (s : State) (v : Zks) : (s.withZks v).clk = s.clk := rfl
@[simp] theorem State.withZks_fmn (s : State) (v : Zks) : (s.withZks v).fmn = s.fmn := rfl
@[simp] theorem State.withZks_withZks (s : State) (v w : Zks) : (s.withZks v).withZks w = s.withZks w := rfl
@[simp] theorem State.withZks_self (s : State) : s.withZks s.zks = s := rfl
@[simp] theorem State.withTcu_pending (s : State) (v : Tcu) : (s.withTcu v).pending = s.pending := rfl
@[simp] theorem State.withTcu_env (s : State) (v : Tcu) : (s.withTcu v).env = s.env := rfl
@[simp] theorem State.withTcu_freeReads (s : State) (v : Tcu) : (s.withTcu v).freeReads = s.freeReads := rfl
@[simp] theorem State.withTcu_supply (s : State) (v : Tcu) : (s.withTcu v).supply = s.supply := rfl
@[simp] theorem State.withTcu_startUp (s : State) (v : Tcu) : (s.withTcu v).startUp = s.startUp := rfl
@[simp] theorem State.withTcu_tamper (s : State) (v : Tcu) : (s.withTcu v).tamper = s.tamper := rfl
@[simp] theorem State.withTcu_olk (s : State) (v : Tcu) : (s.withTcu v).olk = s.olk := rfl
@[simp] theorem State.withTcu_lqa (s : State) (v : Tcu) : (s.withTcu v).lqa = s.lqa := rfl
@[simp] theorem State.withTcu_serving (s : State) (v : Tcu) : (s.withTcu v).serving = s.serving := rfl
@[simp] theorem State.withTcu_ast (s : State) (v : Tcu) : (s.withTcu v).ast = s.ast := rfl
@[simp] theorem State.withTcu_dir (s : State) (v : Tcu) : (s.withTcu v).dir = s.dir := rfl
@[simp] theorem State.withTcu_qtb (s : State) (v : Tcu) : (s.withTcu v).qtb = s.qtb := rfl
@[simp] theorem State.withTcu_zks (s : State) (v : Tcu) : (s.withTcu v).zks = s.zks := rfl
@[simp] theorem State.withTcu_tcu (s : State) (v : Tcu) : (s.withTcu v).tcu = v := rfl
@[simp] theorem State.withTcu_ttb (s : State) (v : Tcu) : (s.withTcu v).ttb = s.ttb := rfl
@[simp] theorem State.withTcu_flt (s : State) (v : Tcu) : (s.withTcu v).flt = s.flt := rfl
@[simp] theorem State.withTcu_clk (s : State) (v : Tcu) : (s.withTcu v).clk = s.clk := rfl
@[simp] theorem State.withTcu_fmn (s : State) (v : Tcu) : (s.withTcu v).fmn = s.fmn := rfl
@[simp] theorem State.withTcu_withTcu (s : State) (v w : Tcu) : (s.withTcu v).withTcu w = s.withTcu w := rfl
@[simp] theorem State.withTcu_self (s : State) : s.withTcu s.tcu = s := rfl
@[simp] theorem State.withTtb_pending (s : State) (v : Ttb) : (s.withTtb v).pending = s.pending := rfl
@[simp] theorem State.withTtb_env (s : State) (v : Ttb) : (s.withTtb v).env = s.env := rfl
@[simp] theorem State.withTtb_freeReads (s : State) (v : Ttb) : (s.withTtb v).freeReads = s.freeReads := rfl
@[simp] theorem State.withTtb_supply (s : State) (v : Ttb) : (s.withTtb v).supply = s.supply := rfl
@[simp] theorem State.withTtb_startUp (s : State) (v : Ttb) : (s.withTtb v).startUp = s.startUp := rfl
@[simp] theorem State.withTtb_tamper (s : State) (v : Ttb) : (s.withTtb v).tamper = s.tamper := rfl
@[simp] theorem State.withTtb_olk (s : State) (v : Ttb) : (s.withTtb v).olk = s.olk := rfl
@[simp] theorem State.withTtb_lqa (s : State) (v : Ttb) : (s.withTtb v).lqa = s.lqa := rfl
@[simp] theorem State.withTtb_serving (s : State) (v : Ttb) : (s.withTtb v).serving = s.serving := rfl
@[simp] theorem State.withTtb_ast (s : State) (v : Ttb) : (s.withTtb v).ast = s.ast := rfl
@[simp] theorem State.withTtb_dir (s : State) (v : Ttb) : (s.withTtb v).dir = s.dir := rfl
@[simp] theorem State.withTtb_qtb (s : State) (v : Ttb) : (s.withTtb v).qtb = s.qtb := rfl
@[simp] theorem State.withTtb_zks (s : State) (v : Ttb) : (s.withTtb v).zks = s.zks := rfl
@[simp] theorem State.withTtb_tcu (s : State) (v : Ttb) : (s.withTtb v).tcu = s.tcu := rfl
@[simp] theorem State.withTtb_ttb (s : State) (v : Ttb) : (s.withTtb v).ttb = v := rfl
@[simp] theorem State.withTtb_flt (s : State) (v : Ttb) : (s.withTtb v).flt = s.flt := rfl
@[simp] theorem State.withTtb_clk (s : State) (v : Ttb) : (s.withTtb v).clk = s.clk := rfl
@[simp] theorem State.withTtb_fmn (s : State) (v : Ttb) : (s.withTtb v).fmn = s.fmn := rfl
@[simp] theorem State.withTtb_withTtb (s : State) (v w : Ttb) : (s.withTtb v).withTtb w = s.withTtb w := rfl
@[simp] theorem State.withTtb_self (s : State) : s.withTtb s.ttb = s := rfl
@[simp] theorem State.withFlt_pending (s : State) (v : Flt) : (s.withFlt v).pending = s.pending := rfl
@[simp] theorem State.withFlt_env (s : State) (v : Flt) : (s.withFlt v).env = s.env := rfl
@[simp] theorem State.withFlt_freeReads (s : State) (v : Flt) : (s.withFlt v).freeReads = s.freeReads := rfl
@[simp] theorem State.withFlt_supply (s : State) (v : Flt) : (s.withFlt v).supply = s.supply := rfl
@[simp] theorem State.withFlt_startUp (s : State) (v : Flt) : (s.withFlt v).startUp = s.startUp := rfl
@[simp] theorem State.withFlt_tamper (s : State) (v : Flt) : (s.withFlt v).tamper = s.tamper := rfl
@[simp] theorem State.withFlt_olk (s : State) (v : Flt) : (s.withFlt v).olk = s.olk := rfl
@[simp] theorem State.withFlt_lqa (s : State) (v : Flt) : (s.withFlt v).lqa = s.lqa := rfl
@[simp] theorem State.withFlt_serving (s : State) (v : Flt) : (s.withFlt v).serving = s.serving := rfl
@[simp] theorem State.withFlt_ast (s : State) (v : Flt) : (s.withFlt v).ast = s.ast := rfl
@[simp] theorem State.withFlt_dir (s : State) (v : Flt) : (s.withFlt v).dir = s.dir := rfl
@[simp] theorem State.withFlt_qtb (s : State) (v : Flt) : (s.withFlt v).qtb = s.qtb := rfl
@[simp] theorem State.withFlt_zks (s : State) (v : Flt) : (s.withFlt v).zks = s.zks := rfl
@[simp] theorem State.withFlt_tcu (s : State) (v : Flt) : (s.withFlt v).tcu = s.tcu := rfl
@[simp] theorem State.withFlt_ttb (s : State) (v : Flt) : (s.withFlt v).ttb = s.ttb := rfl
@[simp] theorem State.withFlt_flt (s : State) (v : Flt) : (s.withFlt v).flt = v := rfl
@[simp] theorem State.withFlt_clk (s : State) (v : Flt) : (s.withFlt v).clk = s.clk := rfl
@[simp] theorem State.withFlt_fmn (s : State) (v : Flt) : (s.withFlt v).fmn = s.fmn := rfl
@[simp] theorem State.withFlt_withFlt (s : State) (v w : Flt) : (s.withFlt v).withFlt w = s.withFlt w := rfl
@[simp] theorem State.withFlt_self (s : State) : s.withFlt s.flt = s := rfl
@[simp] theorem State.withClk_pending (s : State) (v : Clk) : (s.withClk v).pending = s.pending := rfl
@[simp] theorem State.withClk_env (s : State) (v : Clk) : (s.withClk v).env = s.env := rfl
@[simp] theorem State.withClk_freeReads (s : State) (v : Clk) : (s.withClk v).freeReads = s.freeReads := rfl
@[simp] theorem State.withClk_supply (s : State) (v : Clk) : (s.withClk v).supply = s.supply := rfl
@[simp] theorem State.withClk_startUp (s : State) (v : Clk) : (s.withClk v).startUp = s.startUp := rfl
@[simp] theorem State.withClk_tamper (s : State) (v : Clk) : (s.withClk v).tamper = s.tamper := rfl
@[simp] theorem State.withClk_olk (s : State) (v : Clk) : (s.withClk v).olk = s.olk := rfl
@[simp] theorem State.withClk_lqa (s : State) (v : Clk) : (s.withClk v).lqa = s.lqa := rfl
@[simp] theorem State.withClk_serving (s : State) (v : Clk) : (s.withClk v).serving = s.serving := rfl
@[simp] theorem State.withClk_ast (s : State) (v : Clk) : (s.withClk v).ast = s.ast := rfl
@[simp] theorem State.withClk_dir (s : State) (v : Clk) : (s.withClk v).dir = s.dir := rfl
@[simp] theorem State.withClk_qtb (s : State) (v : Clk) : (s.withClk v).qtb = s.qtb := rfl
@[simp] theorem State.withClk_zks (s : State) (v : Clk) : (s.withClk v).zks = s.zks := rfl
@[simp] theorem State.withClk_tcu (s : State) (v : Clk) : (s.withClk v).tcu = s.tcu := rfl
@[simp] theorem State.withClk_ttb (s : State) (v : Clk) : (s.withClk v).ttb = s.ttb := rfl
@[simp] theorem State.withClk_flt (s : State) (v : Clk) : (s.withClk v).flt = s.flt := rfl
@[simp] theorem State.withClk_clk (s : State) (v : Clk) : (s.withClk v).clk = v := rfl
@[simp] theorem State.withClk_fmn (s : State) (v : Clk) : (s.withClk v).fmn = s.fmn := rfl
@[simp] theorem State.withClk_withClk (s : State) (v w : Clk) : (s.withClk v).withClk w = s.withClk w := rfl
@[simp] theorem State.withClk_self (s : State) : s.withClk s.clk = s := rfl
@[simp] theorem State.withFmn_pending (s : State) (v : Fmn) : (s.withFmn v).pending = s.pending := rfl
@[simp] theorem State.withFmn_env (s : State) (v : Fmn) : (s.withFmn v).env = s.env := rfl
@[simp] theorem State.withFmn_freeReads (s : State) (v : Fmn) : (s.withFmn v).freeReads = s.freeReads := rfl
@[simp] theorem State.withFmn_supply (s : State) (v : Fmn) : (s.withFmn v).supply = s.supply := rfl
@[simp] theorem State.withFmn_startUp (s : State) (v : Fmn) : (s.withFmn v).startUp = s.startUp := rfl
@[simp] theorem State.withFmn_tamper (s : State) (v : Fmn) : (s.withFmn v).tamper = s.tamper := rfl
@[simp] theorem State.withFmn_olk (s : State) (v : Fmn) : (s.withFmn v).olk = s.olk := rfl
@[simp] theorem State.withFmn_lqa (s : State) (v : Fmn) : (s.withFmn v).lqa = s.lqa := rfl
@[simp] theorem State.withFmn_serving (s : State) (v : Fmn) : (s.withFmn v).serving = s.serving := rfl
@[simp] theorem State.withFmn_ast (s : State) (v : Fmn) : (s.withFmn v).ast = s.ast := rfl
@[simp] theorem State.withFmn_dir (s : State) (v : Fmn) : (s.withFmn v).dir = s.dir := rfl
@[simp] theorem State.withFmn_qtb (s : State) (v : Fmn) : (s.withFmn v).qtb = s.qtb := rfl
@[simp] theorem State.withFmn_zks (s : State) (v : Fmn) : (s.withFmn v).zks = s.zks := rfl
@[simp] theorem State.withFmn_tcu (s : State) (v : Fmn) : (s.withFmn v).tcu = s.tcu := rfl
@[simp] theorem State.withFmn_ttb (s : State) (v : Fmn) : (s.withFmn v).ttb = s.ttb := rfl
@[simp] theorem State.withFmn_flt (s : State) (v : Fmn) : (s.withFmn v).flt = s.flt := rfl
@[simp] theorem State.withFmn_clk (s : State) (v : Fmn) : (s.withFmn v).clk = s.clk := rfl
@[simp] theorem State.withFmn_fmn (s : State) (v : Fmn) : (s.withFmn v).fmn = v := rfl
@[simp] theorem State.withFmn_withFmn (s : State) (v w : Fmn) : (s.withFmn v).withFmn w = s.withFmn w := rfl
@[simp] theorem State.withFmn_self (s : State) : s.withFmn s.fmn = s := rfl

end Sys2Proof.Machine
end

