-- ==== Sys2Proof/Laws/Store.lean ====
section
/-! SUPPORT. The account store: a slot reads as it was last written, every other slot as before, and every write keeps the canonical
form. -/

namespace Sys2Proof.Machine

/-- Every listed slot lies above `n`. -/
def Store.above (n : Nat) (m : Store) : Prop := ∀ c ∈ m, n < c.1

theorem Store.wf_nil : Store.wf [] = true := rfl

/-- The canonical form of a list with a first slot. -/
theorem Store.wf_cons (k : Nat) (r : Record) (m : Store) :
    Store.wf ((k, r) :: m) = true ↔ r ≠ blankRecord ∧ Store.above k m ∧ Store.wf m = true := by
  simp only [Store.wf, Store.above, List.map_cons, List.pairwise_cons, List.all_cons, Bool.and_eq_true, decide_eq_true_eq,
    List.mem_map]
  constructor
  · rintro ⟨⟨h1, h2⟩, h3, h4⟩
    exact ⟨h3, fun c hc => h1 c.1 ⟨c, hc, rfl⟩, h2, h4⟩
  · rintro ⟨h1, h2, h3, h4⟩
    refine ⟨⟨?_, h3⟩, h1, h4⟩
    rintro a ⟨c, hc, rfl⟩
    exact h2 c hc

theorem Store.above_write {n slot : Nat} {m : Store} {r : Record} (h : Store.above n m) (hs : n < slot) :
    Store.above n (Store.write m slot r) := by
  induction m with
  | nil => by_cases hb : r = blankRecord <;> simp [Store.write, Store.above, hb, hs]
  | cons c rest ih =>
    obtain ⟨k, x⟩ := c
    have hk : n < k := h (k, x) (by simp)
    have hr : Store.above n rest := fun c hc => h c (by simp [hc])
    have ih := ih hr
    unfold Store.write
    intro c hc
    split at hc
    · split at hc
      · exact h c hc
      · rcases List.mem_cons.1 hc with rfl | hc
        · exact hs
        · exact h c hc
    · split at hc
      · split at hc
        · exact hr c hc
        · rcases List.mem_cons.1 hc with rfl | hc
          · exact hs
          · exact hr c hc
      · rcases List.mem_cons.1 hc with rfl | hc
        · exact hk
        · exact ih c hc

/-- A write keeps the canonical form. -/
theorem Store.wf_write {m : Store} (slot : Nat) (r : Record) (h : Store.wf m = true) : Store.wf (Store.write m slot r) = true := by
  induction m with
  | nil =>
    by_cases hb : r = blankRecord
    · simp [Store.write, hb, Store.wf_nil]
    · simp only [Store.write, hb, if_false]
      exact (Store.wf_cons _ _ _).2 ⟨hb, by simp [Store.above], Store.wf_nil⟩
  | cons c rest ih =>
    obtain ⟨k, x⟩ := c
    obtain ⟨h1, h2, h3⟩ := (Store.wf_cons _ _ _).1 h
    unfold Store.write
    split
    · split
      · exact h
      · rename_i hlt hb
        refine (Store.wf_cons _ _ _).2 ⟨hb, ?_, h⟩
        intro c hc
        rcases List.mem_cons.1 hc with rfl | hc
        · exact hlt
        · exact Nat.lt_trans hlt (h2 c hc)
    · split
      · split
        · exact h3
        · rename_i he hb
          exact (Store.wf_cons _ _ _).2 ⟨hb, he ▸ h2, h3⟩
      · rename_i hn he
        exact (Store.wf_cons _ _ _).2 ⟨h1, Store.above_write h2 (by omega), ih h3⟩

/-- A slot below every listed one reads as blank. -/
theorem Store.read_above {n slot : Nat} {m : Store} (h : Store.above n m) (hs : slot ≤ n) : Store.read m slot = blankRecord := by
  induction m with
  | nil => rfl
  | cons c rest ih =>
    obtain ⟨k, x⟩ := c
    have hk : n < k := h (k, x) (by simp)
    have hne : k ≠ slot := by omega
    simp only [Store.read, if_neg hne]
    exact ih fun c hc => h c (by simp [hc])

/-- A slot reads as the record last written to it. -/
theorem Store.read_write_same {m : Store} (slot : Nat) (r : Record) (h : Store.wf m = true) :
    Store.read (Store.write m slot r) slot = r := by
  induction m with
  | nil =>
    by_cases hb : r = blankRecord
    · simp [Store.write, Store.read, hb]
    · simp [Store.write, Store.read, hb]
  | cons c rest ih =>
    obtain ⟨k, x⟩ := c
    obtain ⟨_, h2, h3⟩ := (Store.wf_cons _ _ _).1 h
    unfold Store.write
    split
    · rename_i hlt
      split
      · rename_i hb
        have hne : k ≠ slot := by omega
        simp only [Store.read, if_neg hne]
        rw [hb]
        exact Store.read_above h2 (by omega)
      · simp [Store.read]
    · split
      · rename_i he
        split
        · rename_i hb
          rw [hb]
          exact Store.read_above (he ▸ h2) (Nat.le_refl _)
        · simp [Store.read]
      · rename_i he
        have hne : k ≠ slot := fun e => he e.symm
        simp only [Store.read, if_neg hne]
        exact ih h3

/-- Every other slot reads as before a write. -/
theorem Store.read_write_other {m : Store} {slot other : Nat} (r : Record) (hne : other ≠ slot) :
    Store.read (Store.write m slot r) other = Store.read m other := by
  have hs : slot ≠ other := fun e => hne e.symm
  induction m with
  | nil => by_cases hb : r = blankRecord <;> simp [Store.write, Store.read, hb, hs]
  | cons c rest ih =>
    obtain ⟨k, x⟩ := c
    unfold Store.write
    split
    · split
      · rfl
      · simp [Store.read, hs]
    · split
      · rename_i he
        subst he
        split <;> simp [Store.read, hs]
      · simp only [Store.read, ih]

/-- Right after reset the store is in its canonical form. -/
theorem Store.wf_reset : Store.wf State.reset.ast.slots = true := rfl

end Sys2Proof.Machine
end

