-- ==== Sys2Proof/Laws/Ops.lean ====
section
/-! SUPPORT. One lemma per shared operation, saying what it can do; statements about commands cite these instead of unfolding. -/

namespace Sys2Proof.Machine

/-! ### Tables -/

theorem pick_put_same {α : Type} [Inhabited α] {n : Nat} (v : Vector α n) {i : Nat} (x : α) (h : i < n) : pick (put v i x) i = x := by
  simp [pick, put, h]

theorem pick_put_other {α : Type} [Inhabited α] {n : Nat} (v : Vector α n) {i j : Nat} (x : α) (h : j ≠ i) :
    pick (put v i x) j = pick v j := by
  simp only [pick, put]
  rw [Vector.getElem?_setIfInBounds_ne (fun e => h e.symm)]

/-! ### Retained writes and faults -/

/-- Trying a write draws one outcome and changes nothing else. -/
theorem drawWrite_eq (s : State) :
    drawWrite s = (s.env.storeFails.headD false, s.withEnv { s.env with storeFails := s.env.storeFails.tail }) := by
  unfold drawWrite
  cases h : s.env.storeFails with
  | nil =>
    have he : ({ s.env with storeFails := [] } : Env) = s.env := by rw [← h]
    simp [he]
  | cons b rest => rfl

/-- A write that no failure awaits is made. -/
theorem drawWrite_made {s : State} (h : s.env.storeFails = []) : drawWrite s = (false, s) := by
  simp [drawWrite, h]

/-- A retained write that is made. -/
theorem retained_made {α : Type} {s t : State} (made failed : State → α) (h : drawWrite s = (false, t)) :
    retained s made failed = made t := by
  simp [retained, h]

/-- A retained write that fails raises STORE_WRITE. -/
theorem retained_failed {α : Type} {s t : State} (made failed : State → α) (h : drawWrite s = (true, t)) :
    retained s made failed = failed (raise .storeWrite t) := by
  simp [retained, h]

/-- All that a retained write comes to: made or failed, on the state with one outcome drawn. -/
theorem retained_cases {α : Type} (s : State) (made failed : State → α) :
    ∃ v : Env, retained s made failed = made (s.withEnv v) ∨
      retained s made failed = failed (raise .storeWrite (s.withEnv v)) := by
  refine ⟨{ s.env with storeFails := s.env.storeFails.tail }, ?_⟩
  unfold retained
  rw [drawWrite_eq]
  cases s.env.storeFails.headD false
  · exact .inl rfl
  · exact .inr rfl

/-- A fault changes the fault monitor alone. -/
theorem raise_eq (k : FaultKind) (s : State) : raise k s = s.withFmn (s.fmn.arrive k s.clk.minute) := rfl

/-- Two faults of one failure change the fault monitor and the count of free values read. -/
theorem raiseBeside_eq (k : FaultKind) (s : State) :
    raiseBeside k s = (s.withFreeReads (s.freeReads + 1)).withFmn
      (if Config.storeWriteFirst s.freeReads then (s.fmn.arrive .storeWrite s.clk.minute).arrive k s.clk.minute
       else (s.fmn.arrive k s.clk.minute).arrive .storeWrite s.clk.minute) := by
  unfold raiseBeside
  split <;> rfl

/-- A fault never unlocks the part. -/
theorem arrive_locked (k : FaultKind) (n : Nat) (m : Fmn) (h : m.locked = true) : (m.arrive k n).locked = true := by
  simp [Fmn.arrive, faultCase, h]

/-- A fault leaves the zeroise's mark, the lock and its key alone. -/
theorem arrive_frame (k : FaultKind) (n : Nat) (m : Fmn) :
    (m.arrive k n).zeroisePending = m.zeroisePending ∧ (m.arrive k n).configLock = m.configLock ∧ (m.arrive k n).lockKey = m.lockKey := by
  unfold Fmn.arrive
  cases faultCase k m <;> simp

/-! ### Slots -/

/-- A slot taken is the pool's head; nothing else changes. -/
theorem takeSlot_some {s t : State} {slot : Nat} (h : takeSlot s = some (slot, t)) :
    ∃ rest, s.ast.free = slot :: rest ∧ t = s.withAst { s.ast with free := rest } := by
  unfold takeSlot at h
  split at h
  · cases h
  · rename_i x rest hx
    cases h
    exact ⟨rest, hx, rfl⟩

/-- A slot written reads as the record written. -/
theorem record_writeSlot_same {s : State} (slot : Nat) (r : Record) (h : Store.wf s.ast.slots = true) :
    (writeSlot slot r s).record slot = r := by
  simp [writeSlot, State.record, Store.read_write_same slot r h]

/-- Every other slot reads as before. -/
theorem record_writeSlot_other (s : State) {slot other : Nat} (r : Record) (h : other ≠ slot) :
    (writeSlot slot r s).record other = s.record other := by
  simp [writeSlot, State.record, Store.read_write_other r h]

/-! ### Grants -/

/-- All that a grant comes to: the request stood at the head of its lane's queue or the queue was empty, the arbiter's choice was that
lane, and the request has left the queue. -/
theorem grantTo_some {lane : Nat} {r : Request} {s g : State} (h : grantTo lane r s = some g) :
    ∃ t rest, t = (if (s.queueAt lane).isEmpty then setQueue lane [r] s else s) ∧ t.queueAt lane = r :: rest ∧
      t.nextLane = some lane ∧ g = granted lane r rest t := by
  unfold grantTo at h
  dsimp only at h
  generalize ht : (if (s.queueAt lane).isEmpty then setQueue lane [r] s else s) = t at h
  refine ⟨t, ?_⟩
  split at h
  · rename_i x rest hq
    split at h
    · rename_i hc
      obtain ⟨rfl, hl⟩ := hc
      cases h
      exact ⟨rest, rfl, hq, hl, rfl⟩
    · cases h
  · cases h

/-- A command taken is a request that was granted and passed the checks of R150. -/
theorem taken_some {i : Instr} {s g : State} (h : taken i s = some g) :
    ∃ lane r, i.request = some (lane, r) ∧ grantTo lane r s = some g ∧ barred lane r.kind g = none := by
  unfold taken at h
  cases hr : i.request with
  | none => rw [hr] at h; cases h
  | some x =>
    obtain ⟨lane, r⟩ := x
    rw [hr] at h
    simp only [Option.bind_some] at h
    cases hg : grantTo lane r s with
    | none => rw [hg] at h; cases h
    | some u =>
      rw [hg] at h
      simp only [Option.bind_some, Option.isNone_iff_eq_none] at h
      split at h
      · rename_i hb
        cases h
        exact ⟨lane, r, rfl, hg, hb⟩
      · cases h

/-- A grant changes the lane queues, the pointers and what the engine serves, and nothing else. -/
theorem granted_eq (lane : Nat) (r : Request) (rest : List Request) (s : State) :
    granted lane r rest s =
      (s.withLqa (granted lane r rest s).lqa).withServing (some ⟨lane, r.tag, r.kind, true, none⟩) := by
  unfold granted setQueue
  dsimp only
  split <;> rfl

/-- A command taken changes the lane queues, the pointers and what the engine serves, and nothing else. -/
theorem taken_frame {i : Instr} {s g : State} (h : taken i s = some g) : g = (s.withLqa g.lqa).withServing g.serving := by
  obtain ⟨lane, r, _, hg, _⟩ := taken_some h
  obtain ⟨t, rest, ht, _, _, rfl⟩ := grantTo_some hg
  have h1 := granted_eq lane r rest t
  have h2 : (granted lane r rest t).serving = some ⟨lane, r.tag, r.kind, true, none⟩ := by rw [h1]; rfl
  rw [h2]
  rw [h1]
  subst ht
  split <;> rfl

/-- A command taken is being served, with a place for its reply. -/
theorem taken_serving {i : Instr} {s g : State} (h : taken i s = some g) :
    ∃ lane r, i.request = some (lane, r) ∧ g.serving = some ⟨lane, r.tag, r.kind, true, none⟩ := by
  obtain ⟨lane, r, hi, hg, _⟩ := taken_some h
  obtain ⟨t, rest, _, _, _, rfl⟩ := grantTo_some hg
  refine ⟨lane, r, hi, ?_⟩
  rw [granted_eq]
  rfl

/-! ### Serving -/

/-- A command taken is answered as its own checks and effects give. -/
theorem serve_taken {i : Instr} {s g : State} {body : State → Served} (h : taken i s = some g) :
    serve i s body =
      match body g with
      | .next (a, t) => .next (finish a t)
      | .fault f => .fault f
      | .refused f => .refused f := by
  obtain ⟨lane, r, hi, hg, hb⟩ := taken_some h
  rcases hbody : body g with ⟨a, u⟩ | f | f <;> simp only [serve, hi, hg, hb, hbody]

/-- A command taken whose work ends in an answer. -/
theorem serve_answered {i : Instr} {s g t : State} {a : Answer} {body : State → Served} (h : taken i s = some g)
    (hb : body g = answered a t) : serve i s body = .next (finish a t) := by
  rw [serve_taken h, hb]
  rfl

/-- A request the arbiter does not grant changes nothing. -/
theorem serve_waits {i : Instr} {s : State} {lane : Nat} {r : Request} (body : State → Served) (hi : i.request = some (lane, r))
    (hg : grantTo lane r s = none) : serve i s body = .next s := by
  simp [serve, hi, hg]

/-- A request answered by the checks of R150. -/
theorem serve_barred {i : Instr} {s g : State} {lane : Nat} {r : Request} {st : Status} (body : State → Served)
    (hi : i.request = some (lane, r)) (hg : grantTo lane r s = some g) (hb : barred lane r.kind g = some st) :
    serve i s body = .next (finish (Answer.bare st) g) := by
  simp [serve, hi, hg, hb]

/-- All that serving comes to. -/
theorem serve_cases {i : Instr} {s t : State} {body : State → Served} (h : serve i s body = .next t) :
    t = s ∨ (∃ lane r g st, i.request = some (lane, r) ∧ grantTo lane r s = some g ∧ barred lane r.kind g = some st ∧
        t = finish (Answer.bare st) g) ∨
      ∃ g a u, taken i s = some g ∧ body g = .next (a, u) ∧ t = finish a u := by
  unfold serve at h
  split at h
  · cases h; exact .inl rfl
  · rename_i lane r hi
    split at h
    · cases h; exact .inl rfl
    · rename_i g hg
      split at h
      · rename_i st hb
        cases h
        exact .inr (.inl ⟨lane, r, g, st, hi, hg, hb, rfl⟩)
      · rename_i hb
        have ht : taken i s = some g := by simp [taken, hi, hg, hb]
        split at h
        · rename_i a u hbody
          cases h
          exact .inr (.inr ⟨g, a, u, ht, hbody, rfl⟩)
        · cases h
        · cases h

/-- The transmitter's filling keeps everything but the transmitter. -/
theorem fillTx_eq (o : Olk) : fillTx o = { o with tx := (fillTx o).tx } := by
  unfold fillTx
  cases o.replies <;> rfl

theorem fillTx_replies (o : Olk) : (fillTx o).replies = o.replies := by rw [fillTx_eq]
theorem fillTx_settings (o : Olk) : (fillTx o).settings = o.settings := by rw [fillTx_eq]
theorem fillTx_asm (o : Olk) : (fillTx o).asm = o.asm := by rw [fillTx_eq]
theorem fillTx_hold (o : Olk) : (fillTx o).hold = o.hold := by rw [fillTx_eq]
theorem fillTx_breakHeld (o : Olk) : (fillTx o).breakHeld = o.breakHeld := by rw [fillTx_eq]

/-- The holding byte of a transmitter in the midst of a frame is the frame's next byte already: loading changes nothing. -/
theorem Tx.load_next {frame : List Byte} {c : Option SentChar} {k : Nat} :
    Tx.load frame ⟨c, frame[k]?, min (k + 1) frame.length⟩ = ⟨c, frame[k]?, min (k + 1) frame.length⟩ := by
  unfold Tx.load
  by_cases hk : k < frame.length
  · simp [hk]
  · have h : min (k + 1) frame.length = frame.length := by omega
    simp [h, List.getElem?_eq_none (Nat.le_of_not_lt hk)]

/-- A transmitter that sends a character in the midst of a reply is full (R173). -/
theorem fillTx_busy {o : Olk} {r : Reply} {rest : List Reply} {c : SentChar} {k : Nat} (h : o.replies = r :: rest)
    (ht : o.tx = ⟨some c, r.frame[k]?, min (k + 1) r.frame.length⟩) : fillTx o = o := by
  cases o
  cases h
  cases ht
  simp [fillTx, Tx.load_next, Tx.push]

/-- Placing a reply changes the link's reply queue and transmitter alone. -/
theorem pushReply_frame (r : Reply) (s : State) :
    pushReply r s = s.withOlk (pushReply r s).olk ∧ (pushReply r s).olk.replies = s.olk.replies ++ [r] := by
  refine ⟨rfl, ?_⟩
  simp [pushReply, fillTx_replies]

/-- Answering changes the link, the engine and the count of free values read, and nothing else. -/
theorem finish_frame (a : Answer) (s : State) :
    finish a s = ((s.withFreeReads (s.freeReads + 1)).withServing none).withOlk (finish a s).olk := by
  unfold finish
  dsimp only
  split
  · split
    · rfl
    · rfl
  · rfl

@[simp] theorem finish_pending (a : Answer) (s : State) : (finish a s).pending = s.pending := by rw [finish_frame]; rfl
@[simp] theorem finish_env (a : Answer) (s : State) : (finish a s).env = s.env := by rw [finish_frame]; rfl
@[simp] theorem finish_supply (a : Answer) (s : State) : (finish a s).supply = s.supply := by rw [finish_frame]; rfl
@[simp] theorem finish_startUp (a : Answer) (s : State) : (finish a s).startUp = s.startUp := by rw [finish_frame]; rfl
@[simp] theorem finish_tamper (a : Answer) (s : State) : (finish a s).tamper = s.tamper := by rw [finish_frame]; rfl
@[simp] theorem finish_lqa (a : Answer) (s : State) : (finish a s).lqa = s.lqa := by rw [finish_frame]; rfl
@[simp] theorem finish_serving (a : Answer) (s : State) : (finish a s).serving = none := by rw [finish_frame]; rfl
@[simp] theorem finish_ast (a : Answer) (s : State) : (finish a s).ast = s.ast := by rw [finish_frame]; rfl
@[simp] theorem finish_dir (a : Answer) (s : State) : (finish a s).dir = s.dir := by rw [finish_frame]; rfl
@[simp] theorem finish_qtb (a : Answer) (s : State) : (finish a s).qtb = s.qtb := by rw [finish_frame]; rfl
@[simp] theorem finish_zks (a : Answer) (s : State) : (finish a s).zks = s.zks := by rw [finish_frame]; rfl
@[simp] theorem finish_tcu (a : Answer) (s : State) : (finish a s).tcu = s.tcu := by rw [finish_frame]; rfl
@[simp] theorem finish_ttb (a : Answer) (s : State) : (finish a s).ttb = s.ttb := by rw [finish_frame]; rfl
@[simp] theorem finish_flt (a : Answer) (s : State) : (finish a s).flt = s.flt := by rw [finish_frame]; rfl
@[simp] theorem finish_clk (a : Answer) (s : State) : (finish a s).clk = s.clk := by rw [finish_frame]; rfl
@[simp] theorem finish_fmn (a : Answer) (s : State) : (finish a s).fmn = s.fmn := by rw [finish_frame]; rfl

/-- The reply of the request served enters the tail of the reply queue, unless its place was taken away. -/
theorem finish_replies (a : Answer) (s : State) :
    (finish a s).olk.replies =
      match s.serving with
      | some v => if v.placeHeld then s.olk.replies ++ [⟨v.lane, v.tag, v.kind, a.status, a.payload, a.settings⟩] else s.olk.replies
      | none => s.olk.replies := by
  unfold finish
  cases s.serving with
  | none => rfl
  | some v =>
    dsimp only
    split
    · simp [pushReply, fillTx_replies]
    · rfl

/-! ### Quotes -/

/-- A quote's entry written changes the quote table alone. -/
theorem setQuote_eq (lane : Nat) (q : Option Quote) (s : State) : setQuote lane q s = s.withQtb (setQuote lane q s).qtb := by
  unfold setQuote
  split <;> rfl

/-- A lane's note written changes the lane queues' block alone. -/
theorem setNote_eq (lane : Nat) (n : Note) (s : State) : setNote lane n s = s.withLqa (setNote lane n s).lqa := by
  unfold setNote
  split <;> rfl

/-- The review counter's restart, or not, changes the quote table and the count of free values read alone. -/
theorem releaseReview_eq (q : Quote) (s : State) :
    releaseReview q s = (s.withQtb (releaseReview q s).qtb).withFreeReads (releaseReview q s).freeReads := by
  unfold releaseReview restartReview
  split <;> rfl

/-- A void changes the quote table, the free pool, the reserved amount and the count of free values read, and nothing else (R76). -/
theorem voidQuote_eq (lane : Nat) (s : State) :
    voidQuote lane s =
      (((s.withQtb (voidQuote lane s).qtb).withAst (voidQuote lane s).ast).withFlt (voidQuote lane s).flt).withFreeReads
        (voidQuote lane s).freeReads := by
  unfold voidQuote
  split
  · rfl
  · rename_i q hq
    dsimp only
    rw [releaseReview_eq]
    unfold freeSlot
    rw [setQuote_eq]
    rfl

/-- A void with its note changes the note beside what a void changes (R76). -/
theorem voidWaiting_eq (n : Note) (lane : Nat) (s : State) :
    voidWaiting n lane s =
      ((((s.withLqa (voidWaiting n lane s).lqa).withQtb (voidWaiting n lane s).qtb).withAst (voidWaiting n lane s).ast).withFlt
        (voidWaiting n lane s).flt).withFreeReads (voidWaiting n lane s).freeReads := by
  unfold voidWaiting
  split
  · rfl
  · split
    · rfl
    · rw [setNote_eq, voidQuote_eq]
      rfl

/-- Voiding every quote changes no more than voiding one does. -/
theorem voidAll_eq (n : Note) (s : State) :
    voidAll n s =
      ((((s.withLqa (voidAll n s).lqa).withQtb (voidAll n s).qtb).withAst (voidAll n s).ast).withFlt
        (voidAll n s).flt).withFreeReads (voidAll n s).freeReads := by
  have key : ∀ (ks : List Nat) (t : State), ∃ l q a f n',
      ks.foldl (fun t k => voidWaiting n k t) t = ((((t.withLqa l).withQtb q).withAst a).withFlt f).withFreeReads n' := by
    intro ks
    induction ks with
    | nil => intro t; exact ⟨t.lqa, t.qtb, t.ast, t.flt, t.freeReads, rfl⟩
    | cons k ks ih =>
      intro t
      obtain ⟨l, q, a, f, n', h⟩ := ih (voidWaiting n k t)
      refine ⟨l, q, a, f, n', ?_⟩
      have e : ∃ l1 q1 a1 f1 r1,
          voidWaiting n k t = ((((t.withLqa l1).withQtb q1).withAst a1).withFlt f1).withFreeReads r1 :=
        ⟨_, _, _, _, _, voidWaiting_eq n k t⟩
      obtain ⟨l1, q1, a1, f1, r1, e⟩ := e
      rw [e] at h
      rw [List.foldl_cons, e, h]
      clear e h ih
      cases t
      rfl
  obtain ⟨l, q, a, f, n', h⟩ := key counterLanes s
  have h' : voidAll n s = ((((s.withLqa l).withQtb q).withAst a).withFlt f).withFreeReads n' := by
    unfold voidAll
    exact h
  rw [h']
  simp

/-! ### The part's events -/

/-- An event of a part that has supply. -/
theorem powered_on {s : State} (f : State → State) (h : s.supply = true) : powered s f = .next (f s) := by
  simp [powered, h]

/-- No event without supply. -/
theorem powered_off {s : State} (f : State → State) (h : s.supply = false) : powered s f = .next s := by
  simp [powered, h]

end Sys2Proof.Machine
end

