-- ==== Sys2Proof/Laws/Keys.lean ====
section
/-! SUPPORT. What cipher uses come to when no self-test falls due and no event falls among them. -/

namespace Sys2Proof.Machine

@[simp] theorem State.used_zone (s : State) (n z : Nat) : (s.used n).zoneAt z = s.zoneAt z := rfl
@[simp] theorem State.used_slotAt (s : State) (n slot : Nat) : (s.used n).slotAt slot = s.slotAt slot := rfl
@[simp] theorem State.used_used (s : State) (n m : Nat) : (s.used n).used m = s.used (n + m) := by
  simp [State.used, Nat.add_assoc]
@[simp] theorem State.used_zero (s : State) : s.used 0 = s := by
  simp only [State.used, Nat.add_zero]
  rfl

theorem State.calm_used {s : State} {n m : Nat} (h : s.calm (n + m)) : (s.used n).calm m := by
  obtain ⟨h1, h2, h3⟩ := h
  refine ⟨h1, ?_, h3⟩
  simp only [State.used, State.withTcu_tcu]
  omega

theorem State.calm_less {s : State} {n m : Nat} (h : s.calm m) (hn : n ≤ m) : s.calm n := ⟨h.1, by have := h.2.1; omega, h.2.2⟩

/-- No event is due inside the request. -/
theorem midEvent_none {s : State} (h : s.env.mid = []) : midEvent s = s := by
  have e : ({ s.env with mid := [] } : Env) = s.env := by rw [← h]
  simp [midEvent, h, takeEvents, e]

/-- One use counted (R43). -/
theorem countUse_calm {s : State} (h : s.calm 1) : countUse s = .ok () (s.used 1) := by
  obtain ⟨h1, h2, _⟩ := h
  have : s.tcu.uses < Config.usesPerTest := by omega
  simp [countUse, h1, this, State.used]

/-- One use under a key that is in no slot. -/
theorem plainUse_calm {s : State} (h : s.calm 1) : plainUse s = .ok () (s.used 1) := by
  rw [plainUse, midEvent_none h.2.2, countUse_calm h]

/-- One use of a slot's key (R32). -/
theorem slotUse_sound {s : State} {slot : Nat} {k : Block} (hk : s.sound slot k) (h : s.calm 1) :
    slotUse slot s = .ok (k, checkValue k) (s.used 1) := by
  unfold slotUse
  rw [midEvent_none h.2.2]
  have hk' : s.slotAt slot = .loaded k (checkValue k) := hk
  simp [hk', countUse_calm h, Res.andThen]

/-- A slot that agrees with its check value passes the check before use (R36). -/
theorem checkSlot_sound {s : State} {slot : Nat} {k : Block} (hk : s.sound slot k) (h : s.calm 1) :
    checkSlot slot s = .ok () (s.used 1) := by
  simp [checkSlot, slotUse_sound hk h, Res.andThen]

/-- A key checked and used: two uses (R36). -/
theorem checkedKey_sound {s : State} {slot : Nat} {k : Block} (hk : s.sound slot k) (h : s.calm 2) :
    checkedKey slot s = .ok k (s.used 2) := by
  have hu : (s.used 1).sound slot k := hk
  simp [checkedKey, checkSlot_sound hk (State.calm_less h (by omega)), Res.andThen,
    slotUse_sound hu (State.calm_used (n := 1) (m := 1) h)]

/-- A meter key derived: two uses (R39). -/
theorem deriveKey_sound {s : State} {zone meter : Nat} {r : KeyRef} {k : Block} (hk : s.sound r.slot k) (h : s.calm 2) :
    deriveKey zone meter r s = .ok (meterKey k meter r.rev (s.zoneAt zone).group) (s.used 2) := by
  simp [deriveKey, checkedKey_sound hk h, Res.andThen, meterKey]

/-- Blocks chained: one use each (R122). -/
theorem chain_sound {k : Block} (bs : List Block) :
    ∀ (a : Block) (s : State), s.sound 1 k → s.calm bs.length →
      chain a bs s = .ok (bs.foldl (fun a b => encipher k (a ^^^ b)) a) (s.used bs.length) := by
  induction bs with
  | nil => intro a s _ _; simp [chain]
  | cons b bs ih =>
    intro a s hk h
    have h1 : s.calm (1 + bs.length) := State.calm_less h (by simp [Nat.add_comm])
    have hu : (s.used 1).sound 1 k := hk
    simp only [chain, slotUse_sound hk (State.calm_less h1 (by omega)), Res.andThen, ih _ _ hu (State.calm_used h1),
      State.used_used, List.foldl_cons, List.length_cons, Nat.add_comm]

/-- An authenticator made: one use for the check of slot 1 and one for each block (R122). -/
theorem authenticator_sound {s : State} {k : Block} {bs : List Block} (hk : s.sound 1 k) (h : s.calm (bs.length + 1)) :
    authenticator bs s = .ok (chained k bs) (s.used (bs.length + 1)) := by
  have h1 : s.calm (1 + bs.length) := State.calm_less h (by omega)
  have hu : (s.used 1).sound 1 k := hk
  simp only [authenticator, checkSlot_sound hk (State.calm_less h1 (by omega)), Res.andThen, chained]
  rw [chain_sound bs 0 _ hu (State.calm_used h1), State.used_used, Nat.add_comm]

/-- The parts of a set enciphered: one use each (R106). -/
theorem encipherParts_sound (ps : List (Block × TokenClass × Nat)) :
    ∀ (tid : Nat) (s : State), s.calm ps.length → encipherParts tid ps s = .ok (setTokens tid ps) (s.used ps.length) := by
  induction ps with
  | nil => intro tid s _; simp [encipherParts, setTokens]
  | cons p ps ih =>
    intro tid s h
    obtain ⟨k, c, v⟩ := p
    have h1 : s.calm (1 + ps.length) := State.calm_less h (by simp [Nat.add_comm])
    simp only [encipherParts, plainUse_calm (State.calm_less h1 (by omega)), Res.andThen, ih _ _ (State.calm_used h1),
      State.used_used, setTokens, List.length_cons, Nat.add_comm]

/-- A set formed without a key change: two uses for its key and one for each token (R106). -/
theorem formSet_plain {s : State} {zone meter tid : Nat} {key : KeyRef} {k : Block} {set : TokenSet}
    (hk : s.sound key.slot k)
    (h : s.calm (2 + (set.parts (meterKey k meter key.rev (s.zoneAt zone).group) (meterKey k meter key.rev (s.zoneAt zone).group)).length)) :
    formSet zone meter key none tid set s =
      .ok (setTokens tid (set.parts (meterKey k meter key.rev (s.zoneAt zone).group) (meterKey k meter key.rev (s.zoneAt zone).group)))
        (s.used (2 + (set.parts (meterKey k meter key.rev (s.zoneAt zone).group)
          (meterKey k meter key.rev (s.zoneAt zone).group)).length)) := by
  simp only [formSet, deriveKey_sound hk (State.calm_less h (by omega)), Res.andThen, encipherParts_sound _ _ _ (State.calm_used h),
    State.used_used]

/-- A set formed with a key change: four uses for its keys and one for each token (R106). -/
theorem formSet_change {s : State} {zone meter tid : Nat} {key old : KeyRef} {k f : Block} {set : TokenSet}
    (hk : s.sound key.slot k) (hf : s.sound old.slot f)
    (h : s.calm (4 + (set.parts (meterKey k meter key.rev (s.zoneAt zone).group) (meterKey f meter old.rev (s.zoneAt zone).group)).length)) :
    formSet zone meter key (some old) tid set s =
      .ok (setTokens tid (set.parts (meterKey k meter key.rev (s.zoneAt zone).group) (meterKey f meter old.rev (s.zoneAt zone).group)))
        (s.used (4 + (set.parts (meterKey k meter key.rev (s.zoneAt zone).group)
          (meterKey f meter old.rev (s.zoneAt zone).group)).length)) := by
  have hf' : (s.used 2).sound old.slot f := hf
  have h2 : (s.used 2).calm 2 := State.calm_used (State.calm_less h (by omega))
  simp only [formSet, deriveKey_sound hk (State.calm_less h (by omega)), Res.andThen, deriveKey_sound hf' h2, State.used_used,
    State.used_zone]
  exact by rw [encipherParts_sound _ _ _ (State.calm_used h), State.used_used]

end Sys2Proof.Machine
end

