-- ==== Sys2Proof/Laws/Events.lean ====
section
/-! SUPPORT. What a zeroise, a link break or a fault inside a request leaves as it was, what a quote written after one comes to; and
start-up's last step. -/

namespace Sys2Proof.Machine

/-- What no event inside a request changes: the directory and the written slots, the cipher, the tariffs, the clock, the zones, the float
but for its reserved amount, the retained settings, the link settings, the supply and the start-up. -/
structure EventKeeps (s t : State) : Prop where
  pending : t.pending = s.pending
  testFails : t.env.testFails = s.env.testFails
  starts : t.env.starts = s.env.starts
  supply : t.supply = s.supply
  startUp : t.startUp = s.startUp
  settings : t.olk.settings = s.olk.settings
  levels : t.lqa.levels = s.lqa.levels
  pointers : t.lqa.pointers = s.lqa.pointers
  slots : t.ast.slots = s.ast.slots
  dir : t.dir = s.dir
  period : t.qtb.period = s.qtb.period
  threshold : t.qtb.threshold = s.qtb.threshold
  zones : t.zks.zones = s.zks.zones
  tcu : t.tcu = s.tcu
  ttb : t.ttb = s.ttb
  flt : t.flt = { s.flt with reserved := t.flt.reserved }
  clk : t.clk = s.clk

theorem EventKeeps.refl (s : State) : EventKeeps s s := by constructor <;> rfl

theorem EventKeeps.trans {s t u : State} (h : EventKeeps s t) (k : EventKeeps t u) : EventKeeps s u where
  pending := k.pending.trans h.pending
  testFails := k.testFails.trans h.testFails
  starts := k.starts.trans h.starts
  supply := k.supply.trans h.supply
  startUp := k.startUp.trans h.startUp
  settings := k.settings.trans h.settings
  levels := k.levels.trans h.levels
  pointers := k.pointers.trans h.pointers
  slots := k.slots.trans h.slots
  dir := k.dir.trans h.dir
  period := k.period.trans h.period
  threshold := k.threshold.trans h.threshold
  zones := k.zones.trans h.zones
  tcu := k.tcu.trans h.tcu
  ttb := k.ttb.trans h.ttb
  flt := by rw [k.flt, h.flt]
  clk := k.clk.trans h.clk

/-! Updates of one field that keep it. -/

theorem EventKeeps.withFmn (s : State) (v : Fmn) : EventKeeps s (s.withFmn v) := by constructor <;> rfl
theorem EventKeeps.withServing (s : State) (v : Option Serving) : EventKeeps s (s.withServing v) := by constructor <;> rfl
theorem EventKeeps.withTamper (s : State) (v : Bool) : EventKeeps s (s.withTamper v) := by constructor <;> rfl
theorem EventKeeps.withFreeReads (s : State) (v : Nat) : EventKeeps s (s.withFreeReads v) := by constructor <;> rfl
theorem EventKeeps.withOlk {s : State} {v : Olk} (h : v.settings = s.olk.settings) : EventKeeps s (s.withOlk v) := by
  constructor <;> first | rfl | exact h
theorem EventKeeps.withLqa {s : State} {v : Lqa} (h : v.levels = s.lqa.levels) (k : v.pointers = s.lqa.pointers) :
    EventKeeps s (s.withLqa v) := by
  constructor <;> first | rfl | exact h | exact k
theorem EventKeeps.withQtb {s : State} {v : Qtb} (h : v.period = s.qtb.period) (k : v.threshold = s.qtb.threshold) :
    EventKeeps s (s.withQtb v) := by
  constructor <;> first | rfl | exact h | exact k
theorem EventKeeps.withAst {s : State} {v : Ast} (h : v.slots = s.ast.slots) : EventKeeps s (s.withAst v) := by
  constructor <;> first | rfl | exact h
theorem EventKeeps.withZks {s : State} {v : Zks} (h : v.zones = s.zks.zones) : EventKeeps s (s.withZks v) := by
  constructor <;> first | rfl | exact h
theorem EventKeeps.withFlt {s : State} {v : Flt} (h : v = { s.flt with reserved := v.reserved }) : EventKeeps s (s.withFlt v) := by
  constructor <;> first | rfl | exact h
theorem EventKeeps.withEnv {s : State} {v : Env} (h : v.testFails = s.env.testFails) (k : v.starts = s.env.starts) :
    EventKeeps s (s.withEnv v) := by
  constructor <;> first | rfl | exact h | exact k

/-! The events. -/

theorem setQuote_keeps (lane : Nat) (q : Option Quote) (s : State) : EventKeeps s (setQuote lane q s) := by
  unfold setQuote
  split
  · exact .refl s
  · exact .withQtb rfl rfl

theorem setNote_keeps (lane : Nat) (n : Note) (s : State) : EventKeeps s (setNote lane n s) := by
  unfold setNote
  split
  · exact .refl s
  · exact .withLqa rfl rfl

theorem releaseReview_keeps (q : Quote) (s : State) : EventKeeps s (releaseReview q s) := by
  unfold releaseReview restartReview
  split
  · refine .trans ?_ (EventKeeps.withFreeReads _ _)
    exact .withQtb rfl rfl
  · exact .refl s

/-- A void (R76). -/
theorem voidQuote_keeps (lane : Nat) (s : State) : EventKeeps s (voidQuote lane s) := by
  unfold voidQuote
  split
  · exact .refl s
  · rename_i q _
    have h : EventKeeps s (freeSlot q.shadow (setQuote lane none s)) := (setQuote_keeps lane none s).trans (.withAst rfl)
    exact (h.trans (.withFlt rfl)).trans (releaseReview_keeps q _)

/-- A void with its note (R76). -/
theorem voidWaiting_keeps (n : Note) (lane : Nat) (s : State) : EventKeeps s (voidWaiting n lane s) := by
  unfold voidWaiting
  split
  · exact .refl s
  · split
    · exact .refl s
    · exact (voidQuote_keeps lane s).trans (setNote_keeps lane n _)

/-- Every quote that is not ISSUING voided (R86, R87). -/
theorem voidAll_keeps (n : Note) (s : State) : EventKeeps s (voidAll n s) := by
  have key : ∀ (ks : List Nat) (t : State), EventKeeps t (ks.foldl (fun t k => voidWaiting n k t) t) := by
    intro ks
    induction ks with
    | nil => exact .refl
    | cons k ks ih => exact fun t => (voidWaiting_keeps n k t).trans (ih _)
  exact key counterLanes s

/-- The voids of a zeroise or a link break. -/
theorem strike_keeps (n : Note) (s : State) : EventKeeps s (strike n s) :=
  (voidAll_keeps n s).trans (.withServing _ _)

/-- The request being served remembers the cause, and nothing else of it changes (R76). -/
theorem strike_serving (n : Note) (s : State) : (strike n s).serving = s.serving.map fun v => { v with cause := some n } := rfl

/-- A retained write tried (R3). -/
theorem drawWrite_keeps (s : State) : EventKeeps s (drawWrite s).2 := by
  unfold drawWrite
  split
  · exact .refl s
  · exact .withEnv rfl rfl

/-- A zeroise's write, made or not (R161). -/
theorem zeroiseWrite_keeps (s : State) : EventKeeps s (zeroiseWrite s).2 := by
  have k := drawWrite_keeps s
  unfold zeroiseWrite retained
  split <;> rename_i t h <;> rw [h] at k
  · refine .trans (k.trans ?_) (EventKeeps.withFmn _ _)
    exact .withZks rfl
  · exact k.trans (.withFmn _ _)

/-- A zeroise (R161). -/
theorem zeroise_keeps (s : State) : EventKeeps s (zeroise s).2 :=
  ((EventKeeps.withFmn s _).trans (strike_keeps .voided _)).trans (zeroiseWrite_keeps _)

theorem EventKeeps.withNotes (s : State) (n : Vector Note 8) : EventKeeps s (s.withLqa { s.lqa with notes := n }) := .withLqa rfl rfl
theorem EventKeeps.withQueues (s : State) (q : Vector (List Request) 9) : EventKeeps s (s.withLqa { s.lqa with queues := q }) :=
  .withLqa rfl rfl

/-- A link break reset (R172). -/
theorem linkBreakReset_keeps (s : State) : EventKeeps s (linkBreakReset s) := by
  unfold linkBreakReset
  refine .trans (.trans ?_ (strike_keeps .none _)) (EventKeeps.withNotes _ _)
  refine .trans (.trans ?_ (EventKeeps.withServing _ _)) (EventKeeps.withQueues _ _)
  exact .withOlk rfl

/-- An event inside a request. -/
theorem takeEvent_keeps (e : MidEvent) (s : State) : EventKeeps s (takeEvent e s) := by
  cases e with
  | tamper =>
    simp only [takeEvent, assertTamper]
    split
    · exact .refl s
    · split
      · exact (EventKeeps.withTamper s true).trans (zeroise_keeps _)
      · exact .withTamper s true
  | linkBreak =>
    simp only [takeEvent, takeBreak]
    split
    · exact .refl s
    · exact linkBreakReset_keeps s
  | fault k => exact .withFmn s _

/-- The events due at a point inside a request. -/
theorem takeEvents_keeps : ∀ (events : List (Nat × MidEvent)) (s : State), EventKeeps s (takeEvents events s)
  | [], _ => .withEnv rfl rfl
  | (0, e) :: rest, s => (takeEvent_keeps e s).trans (takeEvents_keeps rest _)
  | (_ + 1, _) :: _, _ => .withEnv rfl rfl

/-- A point inside a request at which events may fall. -/
theorem midEvent_keeps (s : State) : EventKeeps s (midEvent s) := takeEvents_keeps _ s

/-- A quote written with no void taken since the grant stands (R74). -/
theorem openQuote_stands {lane : Nat} {q : Quote} {s : State} (h : s.serving.bind (·.cause) = none) :
    openQuote lane q s = placeQuote lane q s := by
  have e : (placeQuote lane q s).serving = s.serving := by
    unfold placeQuote setQuote
    repeat' split
    all_goals rfl
  simp [openQuote, e, h]

/-- A quote written after a void taken since the grant is voided with that void's note (R76). -/
theorem openQuote_struck {lane : Nat} {q : Quote} {s : State} {note : Note} (h : s.serving.bind (·.cause) = some note) :
    openQuote lane q s = voidWaiting note lane (placeQuote lane q s) := by
  have e : (placeQuote lane q s).serving = s.serving := by
    unfold placeQuote setQuote
    repeat' split
    all_goals rfl
  simp [openQuote, e, h]

/-! Start-up's last step (R164 step 6). -/

/-- It waits while a zeroise's write is owed. -/
theorem startRoll_waits {s : State} (h : s.fmn.zeroisePending = true) : startRoll s = s.withStartUp .last := by simp [startRoll, h]

/-- With no boundary reached start-up is done. -/
theorem startRoll_done {s : State} (h : s.fmn.zeroisePending = false) (hb : s.clk.boundaryReached = false) :
    startRoll s = s.withStartUp .done := by
  simp [startRoll, h, hb]

/-- At a reached boundary the month rolls, or the roll's failed write holds start-up up. -/
theorem startRoll_rolls {s : State} (h : s.fmn.zeroisePending = false) (hb : s.clk.boundaryReached = true) :
    startRoll s = (rollMonth s).2.withStartUp (if (rollMonth s).1 then .done else .roll) := by
  simp only [startRoll, h, hb, Bool.false_eq_true, ite_false, ite_true]
  obtain ⟨made, t⟩ := rollMonth s
  cases made <;> rfl

end Sys2Proof.Machine
end

