-- ==== Sys2Proof/Laws/PerInstr.lean ====
section
/-! SUPPORT. The family Widths: a request command's fields have the widths the catalogue of R175 gives its kind. -/

namespace Sys2Proof.Laws

/-- A request command's fields have the widths of its kind's payload in the catalogue (R175). -/
def Widths.Statement (i : Instr) : Prop := ∀ x, i.sent = some x → x.fields.map Prod.fst = x.kind.widths

theorem Widths.query (lane tag meter : Nat) : Widths.Statement (.query lane tag meter) := by
  intro x h
  cases h
  rfl

theorem Widths.list (lane tag start : Nat) : Widths.Statement (.list lane tag start) := by
  intro x h
  cases h
  rfl

theorem Widths.verify (lane tag meter token : Nat) : Widths.Statement (.verify lane tag meter token) := by
  intro x h
  cases h
  rfl

theorem Widths.quote (lane tag meter tender : Nat) : Widths.Statement (.quote lane tag meter tender) := by
  intro x h
  cases h
  rfl

theorem Widths.issue (lane tag : Nat) : Widths.Statement (.issue lane tag) := by
  intro x h
  cases h
  rfl

theorem Widths.withdraw (lane tag : Nat) : Widths.Statement (.withdraw lane tag) := by
  intro x h
  cases h
  rfl

theorem Widths.reprint (lane tag meter : Nat) : Widths.Statement (.reprint lane tag meter) := by
  intro x h
  cases h
  rfl

theorem Widths.enrol (lane tag meter plan revision eligible arrears rate : Nat) : Widths.Statement (.enrol lane tag meter plan revision eligible arrears rate) := by
  intro x h
  cases h
  rfl

theorem Widths.retire (lane tag meter writeOff : Nat) : Widths.Statement (.retire lane tag meter writeOff) := by
  intro x h
  cases h
  rfl

theorem Widths.amend (lane tag meter : Nat) (f : AmendFields) : Widths.Statement (.amend lane tag meter f) := by
  intro x h
  cases h
  rfl

theorem Widths.suspend (lane tag meter : Nat) : Widths.Statement (.suspend lane tag meter) := by
  intro x h
  cases h
  rfl

theorem Widths.resume (lane tag meter : Nat) : Widths.Statement (.resume lane tag meter) := by
  intro x h
  cases h
  rfl

theorem Widths.restore (lane tag meter : Nat) (f : RestoreFields) : Widths.Statement (.restore lane tag meter f) := by
  intro x h
  cases h
  rfl

theorem Widths.countersign (lane tag counter : Nat) : Widths.Statement (.countersign lane tag counter) := by
  intro x h
  cases h
  rfl

theorem Widths.loadPlan (lane tag index clear : Nat) (f : PlanFields) : Widths.Statement (.loadPlan lane tag index clear f) := by
  intro x h
  cases h
  rfl

theorem Widths.armPlans (lane tag disarm month : Nat) : Widths.Statement (.armPlans lane tag disarm month) := by
  intro x h
  cases h
  rfl

theorem Widths.zoneSet (lane tag zone : Nat) (f : ZoneFields) : Widths.Statement (.zoneSet lane tag zone f) := by
  intro x h
  cases h
  rfl

theorem Widths.keyLoad (lane tag slot key check : Nat) : Widths.Statement (.keyLoad lane tag slot key check) := by
  intro x h
  cases h
  rfl

theorem Widths.keyRoll (lane tag zone slot : Nat) : Widths.Statement (.keyRoll lane tag zone slot) := by
  intro x h
  cases h
  rfl

theorem Widths.setClock (lane tag minute : Nat) : Widths.Statement (.setClock lane tag minute) := by
  intro x h
  cases h
  rfl

theorem Widths.setBoundary (lane tag clear minute : Nat) : Widths.Statement (.setBoundary lane tag clear minute) := by
  intro x h
  cases h
  rfl

theorem Widths.grant (lane tag sequence amount hours number auth : Nat) : Widths.Statement (.grant lane tag sequence amount hours number auth) := by
  intro x h
  cases h
  rfl

theorem Widths.statement (lane tag again : Nat) : Widths.Statement (.statement lane tag again) := by
  intro x h
  cases h
  rfl

theorem Widths.setHold (lane tag level : Nat) : Widths.Statement (.setHold lane tag level) := by
  intro x h
  cases h
  rfl

theorem Widths.ackFault (lane tag : Nat) : Widths.Statement (.ackFault lane tag) := by
  intro x h
  cases h
  rfl

theorem Widths.laneLevel (lane tag counter level : Nat) : Widths.Statement (.laneLevel lane tag counter level) := by
  intro x h
  cases h
  rfl

theorem Widths.setCountersign (lane tag period threshold : Nat) : Widths.Statement (.setCountersign lane tag period threshold) := by
  intro x h
  cases h
  rfl

theorem Widths.setLimits (lane tag ceiling cap lease : Nat) : Widths.Statement (.setLimits lane tag ceiling cap lease) := by
  intro x h
  cases h
  rfl

theorem Widths.lock (lane tag key : Nat) : Widths.Statement (.lock lane tag key) := by
  intro x h
  cases h
  rfl

theorem Widths.unlock (lane tag key : Nat) : Widths.Statement (.unlock lane tag key) := by
  intro x h
  cases h
  rfl

theorem Widths.zeroise (lane tag : Nat) : Widths.Statement (.zeroise lane tag) := by
  intro x h
  cases h
  rfl

theorem Widths.status (lane tag : Nat) : Widths.Statement (.status lane tag) := by
  intro x h
  cases h
  rfl

theorem Widths.setLink (lane tag divisor parity stopBits : Nat) : Widths.Statement (.setLink lane tag divisor parity stopBits) := by
  intro x h
  cases h
  rfl

theorem Widths.unknownRequestKind (lane tag kind : Nat) (payload : List Byte) : Widths.Statement (.unknownRequestKind lane tag kind payload) := by
  intro x h
  cases h

theorem Widths.frameReceived (chars : List LineChar) : Widths.Statement (.frameReceived chars) := by
  intro x h
  cases h

theorem Widths.interByteTimeout : Widths.Statement (.interByteTimeout) := by
  intro x h
  cases h

theorem Widths.linkAnswerPlaced : Widths.Statement (.linkAnswerPlaced) := by
  intro x h
  cases h

theorem Widths.replySent : Widths.Statement (.replySent) := by
  intro x h
  cases h

theorem Widths.linkBreak : Widths.Statement (.linkBreak) := by
  intro x h
  cases h

theorem Widths.leaseExpiry (lane : Nat) : Widths.Statement (.leaseExpiry lane) := by
  intro x h
  cases h

theorem Widths.deadlineExpiry : Widths.Statement (.deadlineExpiry) := by
  intro x h
  cases h

theorem Widths.monthRoll : Widths.Statement (.monthRoll) := by
  intro x h
  cases h

theorem Widths.monthRollRetry : Widths.Statement (.monthRollRetry) := by
  intro x h
  cases h

theorem Widths.clockEnd : Widths.Statement (.clockEnd) := by
  intro x h
  cases h

theorem Widths.enrolMoveStep : Widths.Statement (.enrolMoveStep) := by
  intro x h
  cases h

theorem Widths.placingStep : Widths.Statement (.placingStep) := by
  intro x h
  cases h

theorem Widths.retireMoveStep : Widths.Statement (.retireMoveStep) := by
  intro x h
  cases h

theorem Widths.closingStep : Widths.Statement (.closingStep) := by
  intro x h
  cases h

theorem Widths.keyEraseRetry (slot : Nat) : Widths.Statement (.keyEraseRetry slot) := by
  intro x h
  cases h

theorem Widths.zeroiseRetry : Widths.Statement (.zeroiseRetry) := by
  intro x h
  cases h

theorem Widths.tamperZeroise : Widths.Statement (.tamperZeroise) := by
  intro x h
  cases h

theorem Widths.powerOnReset : Widths.Statement (.powerOnReset) := by
  intro x h
  cases h

theorem Widths.clockSecond : Widths.Statement (.clockSecond) := by
  intro x h
  cases h

theorem Widths.characterReceived (c : LineChar) : Widths.Statement (.characterReceived c) := by
  intro x h
  cases h

theorem Widths.tamperReleased : Widths.Statement (.tamperReleased) := by
  intro x h
  cases h

theorem Widths.receiveWireReturnsHigh : Widths.Statement (.receiveWireReturnsHigh) := by
  intro x h
  cases h

theorem Widths.supplyLoss : Widths.Statement (.supplyLoss) := by
  intro x h
  cases h

end Sys2Proof.Laws
end

