-- ==== Sys2Proof/Tests/Slice0.lean ====
section
/-! SUPPORT. The tests: ill-formed commands refused, the worked examples of the spec, and a witness for the hypotheses of each statement. -/

namespace Sys2Proof.Tests

open Sys2Proof Sys2Proof.Machine

-- One theorem after another: many kernel evaluations at once would exhaust the address space.
set_option Elab.async false

/-! ### Well-formedness: one ill-formed term for each check -/

/-- Lanes above 8 and tags above 15. -/
theorem test_wf_refuses_lane_and_tag :
    ([.query 9 0 0, .issue 8 16, .status 9 15, .unknownRequestKind 9 0 0x30 []] : List Instr).all (fun i => !i.wf) = true := by decide

/-- Each field of the counter lanes' requests past its bytes. -/
theorem test_wf_refuses_counter_fields :
    ([.query 1 0 (2 ^ 40), .list 1 0 (2 ^ 40), .verify 1 0 (2 ^ 40) 0, .verify 1 0 0 (2 ^ 64), .quote 1 0 (2 ^ 40) 0, .quote 1 0 0 (2 ^ 32),
      .withdraw 9 0, .reprint 1 0 (2 ^ 40)] : List Instr).all (fun i => !i.wf) = true := by decide

/-- Each field of the record requests past its bytes. -/
theorem test_wf_refuses_record_fields :
    ([.enrol 0 0 (2 ^ 40) 0 0 0 0 0, .enrol 0 0 0 256 0 0 0 0, .enrol 0 0 0 0 256 0 0 0, .enrol 0 0 0 0 0 256 0 0, .enrol 0 0 0 0 0 0 (2 ^ 32) 0,
      .enrol 0 0 0 0 0 0 0 256, .retire 0 0 (2 ^ 40) 0, .retire 0 0 0 256, .suspend 0 0 (2 ^ 40), .resume 0 0 (2 ^ 40),
      .amend 0 0 0 ⟨256, 0, 0, 0, 0, 0⟩, .amend 0 0 0 ⟨0, 256, 0, 0, 0, 0⟩, .amend 0 0 0 ⟨0, 0, 2 ^ 32, 0, 0, 0⟩,
      .amend 0 0 0 ⟨0, 0, 0, 256, 0, 0⟩, .amend 0 0 0 ⟨0, 0, 0, 0, 256, 0⟩, .amend 0 0 0 ⟨0, 0, 0, 0, 0, 256⟩,
      .restore 0 0 0 ⟨256, 0, 0, 0, 0, 0, 0, 0, 0, 0, 0, 0, 0, 0, 0, 0⟩, .restore 0 0 0 ⟨0, 256, 0, 0, 0, 0, 0, 0, 0, 0, 0, 0, 0, 0, 0, 0⟩,
      .restore 0 0 0 ⟨0, 0, 256, 0, 0, 0, 0, 0, 0, 0, 0, 0, 0, 0, 0, 0⟩, .restore 0 0 0 ⟨0, 0, 0, 256, 0, 0, 0, 0, 0, 0, 0, 0, 0, 0, 0, 0⟩,
      .restore 0 0 0 ⟨0, 0, 0, 0, 256, 0, 0, 0, 0, 0, 0, 0, 0, 0, 0, 0⟩, .restore 0 0 0 ⟨0, 0, 0, 0, 0, 65536, 0, 0, 0, 0, 0, 0, 0, 0, 0, 0⟩,
      .restore 0 0 0 ⟨0, 0, 0, 0, 0, 0, 65536, 0, 0, 0, 0, 0, 0, 0, 0, 0⟩, .restore 0 0 0 ⟨0, 0, 0, 0, 0, 0, 0, 2 ^ 32, 0, 0, 0, 0, 0, 0, 0, 0⟩,
      .restore 0 0 0 ⟨0, 0, 0, 0, 0, 0, 0, 0, 256, 0, 0, 0, 0, 0, 0, 0⟩, .restore 0 0 0 ⟨0, 0, 0, 0, 0, 0, 0, 0, 0, 2 ^ 24, 0, 0, 0, 0, 0, 0⟩,
      .restore 0 0 0 ⟨0, 0, 0, 0, 0, 0, 0, 0, 0, 0, 2 ^ 24, 0, 0, 0, 0, 0⟩, .restore 0 0 0 ⟨0, 0, 0, 0, 0, 0, 0, 0, 0, 0, 0, 256, 0, 0, 0, 0⟩,
      .restore 0 0 0 ⟨0, 0, 0, 0, 0, 0, 0, 0, 0, 0, 0, 0, 65536, 0, 0, 0⟩, .restore 0 0 0 ⟨0, 0, 0, 0, 0, 0, 0, 0, 0, 0, 0, 0, 0, 65536, 0, 0⟩,
      .restore 0 0 0 ⟨0, 0, 0, 0, 0, 0, 0, 0, 0, 0, 0, 0, 0, 0, 256, 0⟩,
      .restore 0 0 0 ⟨0, 0, 0, 0, 0, 0, 0, 0, 0, 0, 0, 0, 0, 0, 0, 256⟩] : List Instr).all (fun i => !i.wf) = true := by decide

/-- Each field of the plan, zone and key requests past its bytes. -/
theorem test_wf_refuses_configuration_fields :
    ([.loadPlan 0 0 256 0 ⟨0, 0, 0, 0, 0, 0, 0, 0, 0, 0, 0, 0⟩, .loadPlan 0 0 0 256 ⟨0, 0, 0, 0, 0, 0, 0, 0, 0, 0, 0, 0⟩,
      .loadPlan 0 0 0 0 ⟨2 ^ 32, 0, 0, 0, 0, 0, 0, 0, 0, 0, 0, 0⟩, .loadPlan 0 0 0 0 ⟨0, 2 ^ 32, 0, 0, 0, 0, 0, 0, 0, 0, 0, 0⟩,
      .loadPlan 0 0 0 0 ⟨0, 0, 65536, 0, 0, 0, 0, 0, 0, 0, 0, 0⟩, .loadPlan 0 0 0 0 ⟨0, 0, 0, 65536, 0, 0, 0, 0, 0, 0, 0, 0⟩,
      .loadPlan 0 0 0 0 ⟨0, 0, 0, 0, 256, 0, 0, 0, 0, 0, 0, 0⟩, .loadPlan 0 0 0 0 ⟨0, 0, 0, 0, 0, 65536, 0, 0, 0, 0, 0, 0⟩,
      .loadPlan 0 0 0 0 ⟨0, 0, 0, 0, 0, 0, 65536, 0, 0, 0, 0, 0⟩, .loadPlan 0 0 0 0 ⟨0, 0, 0, 0, 0, 0, 0, 65536, 0, 0, 0, 0⟩,
      .loadPlan 0 0 0 0 ⟨0, 0, 0, 0, 0, 0, 0, 0, 2 ^ 32, 0, 0, 0⟩, .loadPlan 0 0 0 0 ⟨0, 0, 0, 0, 0, 0, 0, 0, 0, 2 ^ 32, 0, 0⟩,
      .loadPlan 0 0 0 0 ⟨0, 0, 0, 0, 0, 0, 0, 0, 0, 0, 2 ^ 32, 0⟩, .loadPlan 0 0 0 0 ⟨0, 0, 0, 0, 0, 0, 0, 0, 0, 0, 0, 2 ^ 32⟩,
      .armPlans 0 0 256 0, .armPlans 0 0 0 65536, .zoneSet 0 0 256 ⟨0, 0, 0, 0, 0, 0, 0, 0, 0⟩, .zoneSet 0 0 0 ⟨256, 0, 0, 0, 0, 0, 0, 0, 0⟩,
      .zoneSet 0 0 0 ⟨0, 2 ^ 40, 0, 0, 0, 0, 0, 0, 0⟩, .zoneSet 0 0 0 ⟨0, 0, 2 ^ 40, 0, 0, 0, 0, 0, 0⟩,
      .zoneSet 0 0 0 ⟨0, 0, 0, 256, 0, 0, 0, 0, 0⟩, .zoneSet 0 0 0 ⟨0, 0, 0, 0, 256, 0, 0, 0, 0⟩, .zoneSet 0 0 0 ⟨0, 0, 0, 0, 0, 256, 0, 0, 0⟩,
      .zoneSet 0 0 0 ⟨0, 0, 0, 0, 0, 0, 256, 0, 0⟩, .zoneSet 0 0 0 ⟨0, 0, 0, 0, 0, 0, 0, 256, 0⟩, .zoneSet 0 0 0 ⟨0, 0, 0, 0, 0, 0, 0, 0, 256⟩,
      .keyLoad 0 0 256 0 0, .keyLoad 0 0 0 (2 ^ 64) 0, .keyLoad 0 0 0 0 (2 ^ 24), .keyRoll 0 0 256 0,
      .keyRoll 0 0 0 256] : List Instr).all (fun i => !i.wf) = true := by decide

/-- Each field of the remaining requests and events past its range. -/
theorem test_wf_refuses_other_fields :
    ([.setClock 0 0 (2 ^ 24), .setBoundary 0 0 256 0, .setBoundary 0 0 0 (2 ^ 24), .grant 0 0 65536 0 0 0 0, .grant 0 0 0 (2 ^ 32) 0 0 0,
      .grant 0 0 0 0 65536 0 0, .grant 0 0 0 0 0 65536 0, .grant 0 0 0 0 0 0 (2 ^ 64), .statement 0 0 256, .setHold 0 0 256, .ackFault 9 0,
      .countersign 0 0 256, .laneLevel 0 0 256 0, .laneLevel 0 0 0 256, .setCountersign 0 0 65536 0, .setCountersign 0 0 0 (2 ^ 32),
      .setLimits 0 0 (2 ^ 32) 0 0, .setLimits 0 0 0 (2 ^ 32) 0, .setLimits 0 0 0 0 65536, .lock 0 0 (2 ^ 64), .unlock 0 0 (2 ^ 64),
      .zeroise 9 0, .setLink 0 0 256 0 0, .setLink 0 0 0 256 0, .setLink 0 0 0 0 256, .unknownRequestKind 0 0 256 [],
      .unknownRequestKind 0 0 1 [], .unknownRequestKind 0 0 0x30 (List.replicate 125 0), .leaseExpiry 0, .leaseExpiry 9,
      .keyEraseRetry 16] : List Instr).all (fun i => !i.wf) = true := by decide +kernel

/-- Fields at the top of their ranges are well formed. -/
theorem test_wf_takes_limits :
    ([.query 8 15 (2 ^ 40 - 1), .quote 8 15 (2 ^ 40 - 1) (2 ^ 32 - 1), .setClock 0 15 (2 ^ 24 - 1), .keyLoad 0 15 255 (2 ^ 64 - 1) (2 ^ 24 - 1),
      .unknownRequestKind 8 15 255 (List.replicate 124 0), .leaseExpiry 8, .keyEraseRetry 15] : List Instr).all (·.wf) = true := by
  decide +kernel

/-! ### The cipher, tokens and the zone search -/

/-- The known-answer test's first and last rounds and its result (chapter 02, worked example; R44). -/
theorem test_known_answer :
    (subkey 0x0123456789ABCDEF 7 = 0xEF012345 ∧ roundF 0x2468ACE0 0x23456789 = 0x69C6003D ∧ roundF 0x3B93AE33 0xEF012345 = 0x94FD5D70 ∧
      encipher 0x0123456789ABCDEF 0 = 0x3B93AE3391C1AD39 ∧ decipher 0x0123456789ABCDEF 0x3B93AE3391C1AD39 = 0 ∧ knownAnswer = true) := by
  decide +kernel

/-- The derivation block of meter 000100200455 at revision 5 in supply group 9 (R39's example). -/
theorem test_derivation_block : derivationBlock 100200455 5 9 = 0x0005F8F007593C96 := by decide

/-- The two renderings of R105. -/
theorem test_token_digits :
    tokenDigits 0x0000000000000001 = [0, 0, 0, 0, 0, 0, 0, 0, 0, 1] ∧
      tokenDigits 0xFFFFFFFFFFFFFFFF = [0x18, 0x44, 0x67, 0x44, 0x07, 0x37, 0x09, 0x55, 0x16, 0x15] := by decide +kernel

/-- The key part's low two bits of revision 5 are 1, and part 0 carries the key's high bits (R102's example). -/
theorem test_key_part : keyPartPayload 0xABCD000000000000 5 0 = 0xABCD * 4 + 1 ∧ keyPartPayload 0xABCD 5 3 = 3 * 2 ^ 18 + 0xABCD * 4 + 1 := by
  decide

/-- The zone map of R27's example. -/
def exampleZones : State :=
  State.reset.withZks ⟨(State.reset.zks.zones.set 0 ⟨.embargo, 0x0005FF0000, 0xFFFFFF0000, 0, some ⟨1, 2⟩, none⟩).set 1
    ⟨.accept, 0x0005F00000, 0xFFFFF00000, 0, some ⟨1, 3⟩, none⟩, State.reset.zks.slots, []⟩

/-- The three searches of R27's example, and the ends of entry 1's range. -/
theorem test_zone_search :
    exampleZones.zoneSearch 100200455 = .zone 1 ∧ exampleZones.zoneSearch 100600000 = .embargo ∧ exampleZones.zoneSearch 200000000 = .none ∧
      exampleZones.zoneSearch 99614720 = .zone 1 ∧ exampleZones.zoneSearch 99614719 = .none ∧ exampleZones.zoneSearch 100597759 = .zone 1 ∧
      exampleZones.zoneSearch 100597760 = .embargo ∧ exampleZones.zoneSearch 100663295 = .embargo := by decide +kernel

/-- What the fault monitor makes of a STORE_WRITE and a KEY_CHECK in either order (R155's example). -/
theorem test_fault_order :
    let m := State.reset.fmn
    let a := (m.arrive .storeWrite 0).arrive .keyCheck 0
    let b := (m.arrive .keyCheck 0).arrive .storeWrite 0
    a.stack = [⟨5, .keyCheck, 6⟩, ⟨0, .storeWrite, 5⟩] ∧ a.hold = 6 ∧ a.latest = some ⟨.keyCheck, 6, 0, .pushed⟩ ∧
      b.stack = [⟨0, .keyCheck, 6⟩] ∧ b.hold = 6 ∧ b.latest = some ⟨.storeWrite, 5, 0, .reportedOnly⟩ := by decide

/-! ### The credit computation: Cases A to E of chapter 03 -/

/-- Plan 3 of the worked cases. -/
def plan3 : Plan := ⟨1500, 1000, 12000, 500, [(500, 12050), (3500, 16875), (6000, 21340)], 25990⟩

/-- Plan 7 of the worked cases. -/
def plan7 : Plan := ⟨0, 500, 2000, 0, [(1000, 9500), (5000, 14200)], 18000⟩

/-- A record with the fields a case gives. -/
def caseRecord (units carry arrears rate : Nat) (fixed eligible taken : Bool) : Record :=
  { blankRecord with units := units, carry := carry, arrears := arrears, rate := rate, fixed := fixed, eligible := eligible, taken := taken }

/-- A computation's accepted tender, recovery, energy, carry out, free units and flags; the status alone when it is refused. -/
def figuresOf (r : Except Status Figures) : List Nat :=
  match r with
  | .ok f => [f.accepted, f.recovery, f.energy, f.carryOut, f.free, bit f.clamped, bit f.restricted]
  | .error st => [st.code]

/-- Cases A and B, and a tender one cent below what stage 2 asks (R57's example). -/
theorem test_cases_a_and_b :
    figuresOf (computeCredit (caseRecord 420 730 8000 20 false true false) plan3 20000 none) =
        [20000, 3700, 899, 16105, 500, 0, 0] ∧
      figuresOf (computeCredit (caseRecord 11900 1430 0 0 true true true) plan3 10000 none) = [2598, 0, 100, 430, 0, 1, 0] ∧
      figuresOf (computeCredit (caseRecord 420 730 8000 20 false true false) plan3 2499 none) = [Status.tenderLow.code] := by decide +kernel

/-- Case C, paid and free-only. -/
theorem test_case_c :
    figuresOf (computeCredit (caseRecord 12000 430 0 0 true true false) plan3 5000 none) = [Status.ceilingReached.code] ∧
      figuresOf (computeCredit (caseRecord 12000 430 0 0 true true false) plan3 0 none) = [0, 0, 0, 430, 500, 0, 0] := by
  decide +kernel

/-- Cases D and E. -/
theorem test_cases_d_and_e :
    figuresOf (computeCredit (caseRecord 1850 99000 2000 50 true false false) plan7 40000 (some 5000)) =
        [4031, 2000, 150, 0, 0, 1, 1] ∧
      figuresOf (computeCredit (caseRecord 1995 80000 0 0 true false false) plan7 600 none) = [0, 0, 5, 9000, 0, 1, 0] := by
  decide +kernel

/-! ### A small part: the office of the key-change sale (chapter 05, worked example) -/

/-- The base keys of slots 0, 1, 3 and 7. -/
def keyN (n : Nat) : Block := BitVec.ofNat 64 (n * 0x1020304050607 + 0x5A)

/-- A LOADED slot with a key's own check value. -/
def loadedN (n : Nat) : KeySlot := .loaded (keyN n) (checkValue (keyN n))

/-- The record of Case A at revision 4, last TID 291,007. -/
def saleRecord : Record :=
  Record.sealed ⟨100200455, .active, 1, 3, 4, true, 213, 420, false, false, 8000, 20, 730, some 291007, some ⟨291006, 2, 640, 500, none⟩, 0⟩

/-- A second record: SUSPENDED, stamped month 211, of meter 000100200301. -/
def oldRecord : Record :=
  Record.sealed ⟨100200301, .suspended, 1, 3, 5, true, 211, 7340, true, true, 0, 0, 0, none, none, 0⟩

/-- A third record whose stored check code does not agree, of meter 000100200710. -/
def badRecord : Record := { oldRecord with meter := 100200710, check := oldRecord.check + 1 }

/-- The office: three meters, zone 1 in supply group 9 at revision 5 with 4 before it, plan 3, a float of 1,000,000, the clock at minute
298,410, second 12. -/
def office : State :=
  { State.reset with
    ast := ⟨[(17, oldRecord), (44, badRecord), (903, saleRecord)], [2210, 2211, 2212]⟩
    dir := ⟨[⟨100200301, 17, false⟩, ⟨100200455, 903, false⟩, ⟨100200710, 44, false⟩], none⟩
    qtb := { State.reset.qtb with review := .counting 0 }
    zks := ⟨State.reset.zks.zones.set 1 ⟨.accept, 0, 0, 9, some ⟨5, 7⟩, some ⟨4, 3⟩⟩,
      ((((State.reset.zks.slots.set 0 (loadedN 0)).set 1 (loadedN 1)).set 3 (loadedN 3)).set 7 (loadedN 7)).set 9 (loadedN 9), []⟩
    tcu := ⟨true, 0⟩
    ttb := ⟨State.reset.ttb.active.set 3 (some plan3), State.reset.ttb.staged.set 3 (some plan7), some 214, 41⟩
    flt := { State.reset.flt with balance := 1000000, deadline := some 300000, sequence := 7, number := 3 }
    clk := ⟨12, 298410, 213, some 307200, false⟩ }

/-- What a command comes to on a state. -/
def gives (i : Instr) (s : State) (p : State → Bool) : Bool :=
  match exec i s with
  | .next t => p t
  | _ => false

/-- The state a command leaves; the state itself if it stops. -/
def left (i : Instr) (s : State) : State :=
  match exec i s with
  | .next t => t
  | _ => s

/-- What holds of the state in which a request's own checks are made. -/
def took (i : Instr) (s : State) (p : State → Bool) : Bool := (taken i s).any p

/-- The status and payload of the last reply in the queue. -/
def answer (s : State) : Option (Status × List Byte) := s.olk.replies.getLast?.map fun r => (r.status, r.payload)

/-- The next retained write is made, or fails. -/
def writes (s : State) : Bool := !(drawWrite s).1

/-- The office with its next retained write failing. -/
def failing : State := { office with env := ⟨[true], [], [], []⟩ }

/-- The office with the cipher's use counter at 249. -/
def counted : State := { office with tcu := ⟨true, 249⟩ }

/-- Lane 2's quote of 20,000 cents. -/
def quoted : State := left (.quote 2 1 100200455 20000) counted

/-- QUOTE: shadow slot 2210, 20,000 reserved, six tokens, the lease at minute 298,413, second 12 (chapter 05, worked example). -/
theorem test_sale_quote :
    ((quoted.quoteAt 2).any fun q => decide (q.shadow = 2210 ∧ q.accepted = 20000 ∧ q.count = 6 ∧ q.leaseMinute = 298413 ∧ q.leaseSecond = 12 ∧
      q.change = some ⟨4, 3⟩ ∧ q.key = ⟨5, 7⟩ ∧ q.state = .opened)) = true ∧ quoted.flt.reserved = 20000 ∧ quoted.tcu.uses = 249 := by
  decide +kernel

/-- Lane 2's issue. -/
def issued : State := left (.issue 2 2) quoted

/-- ISSUE: the self-test falls due among its ten uses, the version completed, the float drawn (chapter 05, worked example). -/
theorem test_sale_issue :
    issued.tcu.uses = 3 ∧ issued.flt.balance = 980000 ∧ issued.flt.reserved = 0 ∧ issued.flt.totals = ⟨6, 899, 500, 20000, 1500, 3700⟩ ∧
      (issued.dir.lookup 100200455).map (·.slot) = some 2210 ∧ issued.ast.free = [903, 2211, 2212] ∧
      (issued.record 2210).lastTid = some 298415 ∧ (issued.record 2210).issue = some ⟨298410, 6, 899, 500, some ⟨4, 5⟩⟩ ∧
      (issued.record 2210).revision = 5 ∧ (issued.record 2210).units = 1319 ∧ (issued.record 2210).carry = 16105 := by decide +kernel

/-- The six tokens of the last issue or reprint: the last 60 bytes of its reply. -/
def tokensOf (s : State) : Option (List Byte) := (answer s).map fun a => a.2.drop (a.2.length - 60)

/-- REPRINT: the same tokens at ten uses (chapter 05, worked example). -/
theorem test_sale_reprint :
    gives (.reprint 6 3 100200455) issued (fun t => t.tcu.uses == 13 && tokensOf t == tokensOf issued) = true := by decide +kernel

/-- A token of twenty digits as the number VERIFY carries. -/
def tokenNumber (bs : List Byte) : Nat := bs.foldl (fun a b => a * 100 + b.toNat / 16 * 10 + b.toNat % 16) 0

/-- The n-th token issued. -/
def tokenAt (n : Nat) : Nat := tokenNumber (((tokensOf issued).getD []).drop (10 * n) |>.take 10)

/-- VERIFY of the first token: the second attempt, at revision 4, decodes a KEY PART, index 0, bits 1 (chapter 05, worked example). -/
theorem test_sale_verify_first :
    gives (.verify 6 4 100200455 (tokenAt 0)) issued (fun t => t.tcu.uses == 9 && answer t ==
      some (.ok, fieldBytes [(5, 100200455), (1, 5), (1, 4), (1, 0), (1, 1), (1, 8), (3, 298410), (3, 1), (1, 4), (1, 0)])) = true := by
  decide +kernel

/-- VERIFY of the fifth token: the first attempt decodes CREDIT 899 (chapter 05, worked example). -/
theorem test_sale_verify_fifth :
    gives (.verify 6 5 100200455 (tokenAt 4)) issued (fun t => t.tcu.uses == 6 && answer t ==
      some (.ok, fieldBytes [(5, 100200455), (1, 5), (1, 0xFF), (1, 0), (1, 1), (1, 1), (3, 298414), (3, 899), (1, 5), (1, 0)])) = true := by
  decide +kernel

/-- A record stamped month 211 reads rolled in month 213 (R4's example). -/
theorem test_record_rolled :
    (oldRecord.rolled 213).units = 0 ∧ (oldRecord.rolled 213).fixed = false ∧ (oldRecord.rolled 213).taken = false ∧ oldRecord.stamp = 211 := by
  decide

/-- KEY ROLL of a zone at revision 4 in slot 3 to slot 7: current 5, previous 4, no slot released (chapter 02, worked example). -/
theorem test_key_roll :
    gives (.keyRoll 0 1 1 7) { office with zks := { office.zks with zones := State.reset.zks.zones.set 1 ⟨.accept, 0, 0, 9, some ⟨4, 3⟩, none⟩ } }
      (fun t => answer t == some (.ok, [5, 4, 0xFF]) && t.zoneAt 1 == ⟨.accept, 0, 0, 9, some ⟨5, 7⟩, some ⟨4, 3⟩⟩) = true := by decide +kernel

/-- ENROL in flight: position 2 of 5, cursor 5, four steps (chapter 01, worked example). -/
def inFlight : State :=
  left (.enrol 0 1 100200502 3 5 1 0 0)
    { office with
      ast := ⟨office.ast.slots, [1488, 1489]⟩
      dir := ⟨[⟨100200301, 17, false⟩, ⟨100200455, 903, false⟩, ⟨100200710, 44, false⟩, ⟨100201002, 2051, false⟩, ⟨100201388, 6, false⟩], none⟩ }

/-- The change as it starts, and after step 2 its gap at position 3 with no lookup changed (chapter 01, worked example). -/
theorem test_enrolment_in_flight :
    let two := left .enrolMoveStep (left .enrolMoveStep inFlight)
    let done := left .placingStep (left .enrolMoveStep two)
    inFlight.dir.change = some (.enrolling 100200502 1488 false 2 5) ∧ inFlight.dir.count = 6 ∧
      two.dir.entries[4]? = some ⟨100201002, 2051, false⟩ ∧ (two.dir.lookup 100201002).map (·.slot) = some 2051 ∧
      (two.dir.lookup 100200502).map (·.slot) = some 1488 ∧
      done.dir = ⟨[⟨100200301, 17, false⟩, ⟨100200455, 903, false⟩, ⟨100200502, 1488, false⟩, ⟨100200710, 44, false⟩, ⟨100201002, 2051, false⟩,
        ⟨100201388, 6, false⟩], none⟩ := by decide +kernel

/-- A request as its lane queue holds it. -/
def waiting (kind : Nat) (payload : List Byte) : Request := ⟨0, kind, payload⟩

/-- Lanes 2, 5 and 7 at level 4 with requests waiting, level 4's pointer at lane 5 (R148's example). -/
def threeLanes : State :=
  { office with lqa := ⟨((office.lqa.queues.set 2 [waiting 6 []]).set 5 [waiting 6 []]).set 7 [waiting 6 []],
    ((office.lqa.levels.set 1 4).set 4 4).set 6 4, office.lqa.notes, office.lqa.pointers.set 3 5⟩ }

/-- What a step leaves. -/
def stepped (s : State) : State :=
  match Machine.step s with
  | .next t => t
  | _ => s

/-- The grants go to lane 7, then 2, then 5 (R148's example). -/
theorem test_turns :
    let one := stepped threeLanes
    let two := stepped one
    threeLanes.nextLane = some 7 ∧ one.nextLane = some 2 ∧ two.nextLane = some 5 ∧ (stepped two).nextLane = none ∧
      (stepped two).pointerAt 4 = 5 := by decide +kernel

/-- SET HOLD 0 over a stack of two, then ACK FAULT, which restores level 2 (R156's example). -/
theorem test_set_hold_then_ack :
    let s := { office with fmn := { office.fmn with hold := 5, stack := [⟨2, .storeWrite, 5⟩, ⟨0, .recordCheck, 2⟩] } }
    (left (.setHold 0 1 0) s).fmn.hold = 0 ∧ (left (.ackFault 0 1) (left (.setHold 0 1 0) s)).fmn.hold = 2 := by decide +kernel

/-! ### Witnesses: for each statement, states and operands that meet its hypotheses, clause by clause -/

theorem test_witness_StepRunsFrontCommand :
    (office.withPending [.clockSecond, .status 0 1]).pending = .clockSecond :: [.status 0 1] := by decide

/-- The office with the assembler in a state. -/
def withAsm (a : Assembler) : State := office.withOlk { office.olk with asm := a }

/-- A link answer that waits. -/
def waitingAnswer : Reply := linkReply 7 1 4 .laneClosed

/-- Lane 2's ISSUE answered LATE. -/
def lateReply : Reply := ⟨2, 1, 5, .late, [], none⟩

/-- The office sending that reply, with so many of its bytes taken by the shift register already. -/
def sending (k : Nat) : State :=
  office.withOlk { office.olk with
    replies := [lateReply], tx := ⟨some ⟨0, none, 1⟩, lateReply.frame[k]?, min (k + 1) lateReply.frame.length⟩ }

/-- The office after a link break, still sending the character it had begun. -/
def brokenOff : State := office.withOlk { office.olk with tx := ⟨some ⟨0, none, 1⟩, none, 0⟩ }

theorem test_witness_IdleStep :
    (withAsm (.waiting waitingAnswer)).pending = [] ∧ (withAsm (.waiting waitingAnswer)).answerFits = true ∧ threeLanes.pending = [] ∧
      threeLanes.answerFits = false ∧ threeLanes.nextLane = some 7 ∧ threeLanes.queueAt 7 = [waiting 6 []] ∧ office.pending = [] ∧
      office.answerFits = false ∧ office.nextLane = none ∧ office.olk.tx.shift = none ∧ (sending 0).answerFits = false ∧
      (sending 0).nextLane = none ∧ (sending 0).supply = true ∧ (sending 0).olk.replies = [lateReply] ∧
      (sending 0).olk.tx = ⟨some ⟨0, none, 1⟩, lateReply.frame[0]?, 1⟩ ∧ (sending 7).olk.tx = ⟨some ⟨0, none, 1⟩, none, 7⟩ ∧
      lateReply.frame.length = 7 ∧ (brokenOff.answerFits = false ∧ brokenOff.nextLane = none ∧ brokenOff.olk.replies = []) := by
  decide +kernel

/-- The reply frames of a QUERY answered NOT_FOUND and of SET HOLD 7: 0x5A, length, lane and tag, kind, status, payload, and the CRC-16 of the
conventions, computed apart from the model (R173, R175). -/
theorem test_reply_frames :
    ((left (.query 2 1 7) office).olk.replies.map (·.frame)) = [[0x5A, 0x03, 0x21, 0x01, 0x06, 0x2E, 0x9D]] ∧
      ((left (.setHold 0 15 7) office).olk.replies.map (·.frame)) =
        [[0x5A, 0x06, 0x0F, 0x20, 0x00, 0x00, 0x06, 0x01, 0x79, 0x20]] := by decide +kernel

/-- The transmitter moves on through the frame, character by character, and the reply's place frees with its last (R173). -/
theorem test_sending :
    ((List.range 7).foldl (fun (x : List (Option Byte) × State) _ =>
      match step x.2 with
      | .next t => (x.1 ++ [t.olk.tx.shift.map (·.data)], t)
      | _ => x) ([], sending 0)).1 = lateReply.frame.map some ∧
      (match step (sending 7) with | .next t => t.olk.replies == [] && t.olk.tx == ⟨none, none, 0⟩ | _ => false) = true := by decide +kernel

theorem test_witness_EveryCommandCompletes : office.settled ∧ office.ast.free ≠ [] := by decide +kernel

theorem test_witness_GrantTakesRequest :
    (took (.withdraw 1 0) office (fun _ => true) && took (.withdraw 8 15) office (fun _ => true) && took (.status 0 0) office (fun _ => true) &&
      took (.withdraw 7 0) threeLanes (fun _ => true) && took (.restore 0 0 1 ⟨0, 0, 0, 0, 0, 0, 0, 0, 0, 0, 0, 0, 0, 0, 0, 0⟩) office
        (fun _ => true)) = true := by decide +kernel

/-- The office with the part LOCKED. -/
def locked : State := office.withFmn { office.fmn with locked := true }

theorem test_witness_LockedThenNotPermitted :
    ((grantOf (.list 0 1 0) locked).any (fun g => g.fmn.locked) && (grantOf (.status 0 1) locked).any (fun g => g.fmn.locked) &&
      (grantOf (.zeroise 0 1) locked).any (fun g => g.fmn.locked) && (grantOf (.setClock 1 1 0) office).isSome &&
      (grantOf (.quote 0 1 0 0) office).isSome && (grantOf (.reprint 1 1 0) office).isSome && (grantOf (.list 0 1 0) office).isSome &&
      (grantOf (.enrol 0 1 0 0 0 0 0 0) office).isSome && (grantOf (.setLink 0 1 0 0 0) office).isSome &&
      [0, 8, 0xF, 0x2A, 255].all fun k => (grantOf (.unknownRequestKind 1 1 k []) office).any fun g => !g.fmn.locked) = true := by
  decide +kernel

/-- The office serving lane 2's request, its reply place held or taken away. -/
def servingLane2 (held : Bool) : State := office.withServing (some ⟨2, 1, 4, held, none⟩)

theorem test_witness_ReplyPlaced :
    (servingLane2 true).serving = some ⟨2, 1, 4, true, none⟩ ∧ (servingLane2 false).serving = some ⟨2, 1, 4, false, none⟩ ∧
      (servingLane2 true).olk.replies = [] ∧ (servingLane2 true).olk.tx = ⟨none, none, 0⟩ ∧ brokenOff.olk.tx = ⟨some ⟨0, none, 1⟩, none, 0⟩ ∧
      (sending 7).olk.tx = ⟨some ⟨0, none, 1⟩, lateReply.frame[7]?, min 8 lateReply.frame.length⟩ := by decide +kernel

/-- Lane 1 at level 6 and lane 2 at level 1, and the supervisor lane, with requests waiting. -/
def mixedLanes (supervisor : Bool) : State :=
  office.withLqa { office.lqa with
    queues := ((office.lqa.queues.set 1 [waiting 6 []]).set 2 [waiting 6 []]).set 0 (if supervisor then [waiting 0x28 []] else [])
    levels := (office.lqa.levels.set 0 6).set 1 1 }

theorem test_witness_ArbiterPicksHighest :
    (mixedLanes false).nextLane = some 1 ∧ (mixedLanes true).nextLane = some 0 ∧ (mixedLanes false).ready 2 = true ∧
      (mixedLanes false).levelAt 1 = 6 ∧ (mixedLanes false).levelAt 2 = 1 ∧ threeLanes.nextLane = some 7 ∧ threeLanes.ready 2 = true ∧
      threeLanes.levelAt 2 = threeLanes.levelAt 7 ∧ (mixedLanes false).running = true ∧ (mixedLanes false).serving = none ∧
      (mixedLanes false).placeFree = true ∧ (mixedLanes true).ready 0 = true := by decide +kernel

theorem test_witness_RequestRoundTrip :
    (([.query 8 15 (2 ^ 40 - 1), .enrol 0 0 1 15 15 1 (2 ^ 32 - 1) 255, .issue 1 0, .unknownRequestKind 8 15 255 [1]] : List Instr).all
      fun i => i.wf && i.request.isSome) = true := by decide +kernel

/-- Bytes as characters with even parity and a high stop bit. -/
def lineChars (bs : List Byte) : List LineChar := bs.map fun b => ⟨b, onesOf b % 2 == 1, true⟩

/-- A request of kind 255 with 24 payload bytes, on lane 8 with tag 15. -/
def wireRequest : Request := ⟨15, 255, List.replicate 24 0xA5⟩

theorem test_witness_FrameEntersQueue :
    wireRequest.payload.length = 24 ∧ wrongLength wireRequest.kind wireRequest.payload = false ∧ wrongLength 6 [] = false ∧
      office.receiving = true ∧ office.olk.asm = .hunt ∧ office.olk.hold = none ∧ office.levelAt 8 ≠ 0 ∧ (office.queueAt 8).length < 4 ∧
      (office.queueAt 0).length < 4 ∧ (lineChars (requestFrame 8 wireRequest)).map (·.data) = requestFrame 8 wireRequest ∧
      (lineChars (requestFrame 8 wireRequest)).all (fun c => !charError office.olk.rxSettings c && !charError office.olk.settings c) = true ∧
      (lineChars (requestFrame 0 (waiting 0x28 []))).all (fun c => !charError office.olk.rxSettings c) = true := by decide +kernel

/-- A frame on the wire enters its lane's queue (R167, R168). -/
theorem test_frame_received :
    gives (.frameReceived (lineChars (requestFrame 8 wireRequest))) office (fun t => t.queueAt 8 == [wireRequest]) = true := by decide +kernel

theorem test_witness_CharacterTaken :
    office.receiving = true ∧ office.olk.hold = none ∧ (withAsm (.waiting waitingAnswer)).olk.hold = none ∧
      (withAsm .length).olk.asm = .length ∧ (withAsm (.body 2 [0x21] false)).olk.asm = .body 2 [0x21] false ∧
      (withAsm (.body 126 [] true)).olk.hold = none ∧ (withAsm (.check [0x21, 6] none true)).olk.asm = .check [0x21, 6] none true ∧
      (office.withOlk { office.olk with hold := some ⟨0xA5, false, false⟩ }).receiving = true := by decide +kernel

/-- The CRC's two bytes over a body. -/
def crcHigh (b : List Byte) : Byte := (crc16 b).extractLsb' 8 8
/-- The CRC's low byte as a character. -/
def crcLow (b : List Byte) : LineChar := ⟨(crc16 b).extractLsb' 0 8, onesOf ((crc16 b).extractLsb' 0 8) % 2 == 1, true⟩
/-- A WITHDRAW's body on a lane. -/
def bodyOn (lane : Nat) : List Byte := [laneTagByte lane 1, 6]
/-- A frame of a body at its last character, with lane 7 closed and lane 3 full. -/
def atLast (b : List Byte) (bad : Bool) : State :=
  (withAsm (.check b (some (crcHigh b)) bad)).withLqa { office.lqa with
    queues := office.lqa.queues.set 3 (List.replicate 4 (waiting 6 []))
    levels := office.lqa.levels.set 6 0 }

theorem test_witness_FrameJudged :
    (atLast (bodyOn 8) false).receiving = true ∧ (atLast (bodyOn 8) false).olk.hold = none ∧
      (∀ k ∈ [0, 2, 8], crc16 (bodyOn k) = crcHigh (bodyOn k) ++ (crcLow (bodyOn k)).data) ∧
      charError office.olk.rxSettings (crcLow (bodyOn 2)) = false ∧
      (laneTagByte 9 1).toNat / 16 = 9 ∧ (laneTagByte 8 1).toNat / 16 = 8 ∧ (atLast (bodyOn 7) false).levelAt 7 = 0 ∧
      ((atLast (bodyOn 3) false).queueAt 3).length = 4 ∧ (atLast (bodyOn 2) false).levelAt 2 ≠ 0 ∧ ((atLast (bodyOn 2) false).queueAt 2) = [] ∧
      Kind.ofCode 6 = some .withdraw ∧ Kind.withdraw.payloadLength = 0 ∧ Kind.ofCode 0x30 = none := by decide +kernel

/-- A damaged frame on a closed lane is answered MALFORMED, an undamaged one LANE_CLOSED (R168). -/
theorem test_frame_answers :
    (gives (.characterReceived (crcLow (bodyOn 7))) (atLast (bodyOn 7) true) (fun t => (answer t).map (·.1) == some .malformed) &&
      gives (.characterReceived (crcLow (bodyOn 7))) (atLast (bodyOn 7) false) (fun t => (answer t).map (·.1) == some .laneClosed)) = true := by
  decide +kernel

/-- Sixteen replies. -/
def sixteen : List Reply := List.replicate 16 waitingAnswer

theorem test_witness_LinkAnswersOrWaits :
    office.supply = true ∧ office.olk.asm = .hunt ∧ (withAsm .length).olk.asm = .length ∧
      (withAsm (.body 2 [] true)).olk.asm = .body 2 [] true ∧ (withAsm (.body 3 [0x90] false)).olk.asm = .body 3 [0x90] false ∧
      (withAsm (.check [0x81, 6] none false)).olk.asm = .check [0x81, 6] none false ∧
      ((withAsm (.waiting waitingAnswer)).withOlk { (withAsm (.waiting waitingAnswer)).olk with replies := sixteen }).placeFree = false ∧
      (withAsm (.waiting waitingAnswer)).placeFree = true ∧ (withAsm (.waiting waitingAnswer)).olk.hold = none ∧
      (office.withOlk { office.olk with hold := some ⟨0xA5, false, true⟩, asm := .waiting waitingAnswer }).placeFree = true := by decide +kernel

/-- Two replies, the first a SET LINK's. -/
def twoReplies : State :=
  office.withOlk { office.olk with replies := [⟨0, 1, 0x29, .ok, [7, 0, 2], some ⟨7, .none, 2⟩⟩, waitingAnswer] }

theorem test_witness_LinkSettingsFollowReply :
    (took (.setLink 0 1 0 0 1) office (fun _ => true) && took (.setLink 0 1 255 2 2) office (fun _ => true) &&
      took (.setLink 0 1 47 3 1) office (fun _ => true) && took (.setLink 0 1 47 0 0) office (fun _ => true) &&
      took (.setLink 0 1 47 0 3) office (fun _ => true)) = true ∧ Parity.none.code = 0 ∧ Parity.odd.code = 2 ∧ twoReplies.supply = true ∧
      twoReplies.olk.replies.length = 2 ∧ (left .replySent twoReplies).olk.replies = [waitingAnswer] := by decide +kernel

/-- Two SET LINK replies, of divisor 7 and then 0, with a character already begun at the first of the two changes. -/
def twoSettings : State :=
  { office with
    env := ⟨[], [], [], [true, true]⟩
    olk := { office.olk with
      replies := [⟨0, 1, 0x29, .ok, [7, 0, 2], some ⟨7, .none, 2⟩⟩, ⟨0, 1, 0x29, .ok, [0, 2, 1], some ⟨0, .odd, 1⟩⟩] } }

/-- A character begun before two changes is judged at the settings of its start bit, even parity, and the next at the present ones (R174). -/
theorem test_slow_character :
    let t := left .replySent (left .replySent twoSettings)
    t.olk.settings = ⟨0, .odd, 1⟩ ∧ t.olk.shift = some ⟨47, .even, 1⟩ ∧
      (left (.characterReceived ⟨0xA5, false, true⟩) t).olk.asm = .length ∧ (left (.characterReceived ⟨0xA5, true, true⟩) t).olk.asm = .hunt ∧
      (left (.characterReceived ⟨0xA5, true, true⟩) (left (.characterReceived ⟨0, false, true⟩) t)).olk.asm = .length := by decide +kernel

/-- 0x5A at the default settings: start, data least significant first, even parity 0, one stop bit: 11 bits (R165). -/
theorem test_sent_character :
    (defaultSettings.char 0x5A).bits = [false, false, true, false, true, true, false, true, false, false, true] ∧
      (defaultSettings.char 0x01).parity = some true ∧ ((⟨7, .odd, 2⟩ : LinkSettings).char 0x01).bits.length = 12 := by decide +kernel

/-- A SET LINK's reply sent puts its settings into effect (R174). -/
theorem test_reply_sent : (left .replySent twoReplies).olk.settings = ⟨7, .none, 2⟩ := by decide +kernel

theorem test_witness_LinkBreakResets :
    quoted.supply = true ∧ quoted.olk.breakHeld = false ∧ quoted.floatLaw ∧ (quoted.quoteAt 2).isSome = true ∧
      (office.withOlk { office.olk with breakHeld := true }).olk.breakHeld = true := by decide +kernel

/-- A HELD quote of 20,000 on lane 8 of the sale's meter. -/
def heldQuote : Quote :=
  ⟨8, 100200455, 903, 2210, 20000, 20000, 1500, 3700, 899, 500, false, false, some ⟨4, 3⟩, ⟨5, 7⟩, 6, 213, 41, 298413, 12, .held, true, false⟩

/-- The office with lane 8's quote in a state. -/
def withQuote (st : QuoteState) : State :=
  (office.withQtb { office.qtb with quotes := office.qtb.quotes.set 7 (some { heldQuote with state := st }), review := .stopped 8 }).withFlt
    { office.flt with reserved := 20000 }

/-- The office with the sale's meter marked quarantined. -/
def marked : State := office.withDir (office.dir.mark 100200455 true)

/-- The office without zone 1's keys, so that slots 7 and 9 are free to be named. -/
def bareZones : State := office.withZks { office.zks with zones := State.reset.zks.zones }

/-- The office with the sale's zone EMBARGO, without a previous revision, and with no plan. -/
def embargoed : State := office.withZks { office.zks with zones := office.zks.zones.set 1 ⟨.embargo, 0, 0, 9, some ⟨5, 7⟩, some ⟨4, 3⟩⟩ }
/-- The office with the sale's meter stranded. -/
def strandedMeter : State := office.withZks { office.zks with zones := office.zks.zones.set 1 ⟨.accept, 0, 0, 9, some ⟨5, 7⟩, none⟩ }
/-- The office with a key slot EMPTY. -/
def unloadedSlot (n : Nat) : State := office.withZks { office.zks with slots := put office.zks.slots n .empty }
/-- The office whose sale record's last TID runs ahead of the clock. -/
def aheadBy (last : Nat) : State :=
  { office with ast := ⟨[(903, Record.sealed { saleRecord with lastTid := some last })], office.ast.free⟩ }

/-- The office with a CIPHER_TEST entry on its stack and the cipher FAILED, its next self-tests as given. -/
def cipherFailed (tests : List Bool) : State :=
  { office with
    fmn := { office.fmn with hold := 6, stack := [⟨2, .cipherTest, 6⟩, ⟨0, .recordCheck, 2⟩] }
    tcu := ⟨false, 0⟩, env := ⟨[], tests, [], []⟩ }

/-- The status a command is answered with. -/
def answeredBy (i : Instr) (s : State) (st : Status) : Bool := gives i s fun t => (answer t).map (·.1) == some st

/-- A state with the outcomes of its next retained writes given, true where one fails. -/
def failingAt (fails : List Bool) (s : State) : State := s.withEnv ⟨fails, [], [], []⟩

/-- A request that writes a version: with its version's write failing, and with the write after it failing, STORE_FAULT, the pool and the
directory as they were and a STORE_WRITE entry. -/
def versionFails (i : Instr) (s : State) : Bool :=
  ([[true], [false, true]] : List (List Bool)).all fun fails => gives i (failingAt fails s) fun t =>
    (answer t).map (·.1) == some .storeFault && t.ast.free == s.ast.free && t.dir == s.dir && t.qtb == s.qtb &&
      t.fmn.stack == [⟨0, .storeWrite, 5⟩] && t.env.storeFails == []

theorem test_witness_QueryReports :
    (took (.query 1 1 100200455) office (fun g => g.dir.lookup 100200455 == some ⟨100200455, 903, false⟩ && g.record 903 == saleRecord &&
        saleRecord.intact && saleRecord.lastTid == some 291007 && saleRecord.issue.isSome && g.quoteLane 100200455 == none) &&
      took (.query 1 1 100200301) office (fun g => (g.record 17).intact && (g.record 17).issue == none) &&
      took (.query 0 1 7) office (fun g => g.dir.lookup 7 == none) &&
      took (.query 1 1 100200455) (withQuote .opened) (fun g => g.quoteLane 100200455 == some 8) &&
      took (.query 1 1 100200455) (withQuote .held) (fun g => (g.quoteAt 8).any fun q => q.state == .held) &&
      took (.query 1 1 100200455) marked (fun g => (g.dir.lookup 100200455).any (·.quarantined)) &&
      took (.query 1 1 100200710) office (fun g => !(g.record 44).intact && writes g) &&
      took (.query 1 1 100200710) failing (fun g => !(g.record 44).intact && !writes g)) = true := by decide +kernel

/-- QUERY of the bad record marks it and raises RECORD_CHECK (R6). -/
theorem test_query_quarantines :
    gives (.query 1 1 100200710) office (fun t => t.dir.lookup 100200710 == some ⟨100200710, 44, true⟩ &&
      t.fmn.stack == [⟨0, .recordCheck, 2⟩] && (answer t).map (·.1) == some .quarantined) = true := by decide +kernel

theorem test_witness_ListReports : took (.list 0 1 0) office (fun _ => true) = true := by decide +kernel

/-- LIST from the second meter on (R25). -/
theorem test_list :
    gives (.list 0 1 100200302) office (fun t => answer t == some (.ok, fieldBytes [(1, 2), (1, 0), (5, 100200455), (1, 0), (1, 0),
      (5, 100200710), (1, 1), (1, 0)])) = true := by decide +kernel

/-- The record ENROL writes for meter 999,999,999,999. -/
def enrolledRecord : Record := Record.sealed ⟨999999999999, .active, 1, 3, 15, true, 213, 0, false, false, 10000000, 50, 0, none, none, 0⟩

theorem test_witness_EnrolAndRetireStart :
    (took (.enrol 0 1 999999999999 3 15 1 10000000 50) office (fun g => g.dir.lookup 999999999999 == none && decide (g.dir.count < 4000) &&
        g.zoneSearch 999999999999 == .zone 1 && (g.planAt 3).isSome && (takeSlot g).any fun x => x.1 == 2210 && writes x.2 &&
          writes (writeSlot 2210 enrolledRecord x.2)) &&
      took (.retire 0 1 100200301 0) office (fun g => (g.record 17).intact && (g.record 17).arrears == 0 && writes g &&
        g.quoteLane 100200301 == none) &&
      took (.retire 0 1 100200455 1) office (fun g => (g.record 903).intact && writes g) &&
      took (.retire 0 1 100200455 0) office (fun g => decide (0 < (g.record 903).arrears)) &&
      took (.retire 0 1 100200455 1) marked (fun g => (g.dir.lookup 100200455).any (·.quarantined) && writes g) &&
      took (.retire 0 1 100200455 0) marked (fun g => (g.dir.lookup 100200455).any (·.quarantined))) = true := by decide +kernel

/-- ENROL's refusals and RETIRE's, in their order (R16, R18). -/
theorem test_enrol_retire_refusals :
    (([.enrol 0 1 0 3 15 1 0 0, .enrol 0 1 1000000000000 3 15 1 0 0, .enrol 0 1 9 16 15 1 0 0, .enrol 0 1 9 3 16 1 0 0, .enrol 0 1 9 3 15 2 0 0,
        .enrol 0 1 9 3 15 1 10000001 0, .enrol 0 1 9 3 15 1 0 51, .retire 0 1 100200301 2] : List Instr).all
        (answeredBy · office .outOfRange) &&
      answeredBy (.enrol 0 1 100200710 3 15 1 0 0) office .duplicate &&
      answeredBy (.enrol 0 1 9 3 15 1 0 0) (office.withDir { office.dir with entries := List.replicate 4000 ⟨100200301, 17, false⟩ }) .directoryFull &&
      answeredBy (.enrol 0 1 9 3 15 1 0 0) bareZones .noZone && answeredBy (.enrol 0 1 9 3 15 1 0 0) embargoed .zoneEmbargo &&
      answeredBy (.enrol 0 1 9 15 15 1 0 0) office .noPlan && answeredBy (.retire 0 1 7 1) office .notFound &&
      answeredBy (.retire 0 1 100200455 1) (withQuote .opened) .meterBusy && answeredBy (.retire 0 1 100200455 0) marked .quarantined &&
      answeredBy (.retire 0 1 100200710 0) office .quarantined && answeredBy (.retire 0 1 100200455 0) office .debtOpen) = true := by decide +kernel

/-- Their failed writes, and RETIRE of a bad record with the write-off flag, its change's write made or failing (R3, R6, R18). -/
theorem test_enrol_retire_writes :
    (versionFails (.enrol 0 1 999999999999 3 15 1 10000000 50) office && answeredBy (.retire 0 1 100200301 0) failing .storeFault &&
      answeredBy (.retire 0 1 100200455 1) (failingAt [true] marked) .storeFault &&
      gives (.retire 0 1 100200710 1) office (fun t => t.dir.change == some (.retiring 100200710 44 2) &&
        t.dir.entries[2]? == some ⟨100200710, 44, true⟩) &&
      gives (.retire 0 1 100200710 1) (failingAt [false, true] office) (fun t => t.dir.change == none &&
        (answer t).map (·.1) == some .storeFault)) = true := by decide +kernel

/-- An AMEND that names every field, its arrears adding −9,000. -/
def amendAll : AmendFields := ⟨31, 3, 2 ^ 32 - 9000, 50, 1, 15⟩

theorem test_witness_AmendWritesVersion :
    (took (.amend 0 1 100200455 amendAll) office (fun g => (g.record 903).intact && g.quoteLane 100200455 == none && (g.planAt 3).isSome &&
        (takeSlot g).any fun x => writes x.2 && writes (writeSlot x.1 saleRecord x.2)) && [0, 1, 2, 3, 4].all (flag amendAll.present)) = true := by
  decide +kernel

/-- AMEND clamps arrears of 8,000 less 9,000 at 0 (R21). -/
theorem test_amend_clamps :
    gives (.amend 0 1 100200455 amendAll) office (fun t => answer t == some (.ok, fieldBytes [(4, 0), (1, 1)]) &&
      (t.record 2210).revision == 15 && t.ast.free == [903, 2211, 2212]) = true := by decide +kernel

/-- AMEND's refusals in their order and its failed writes (R3, R21). -/
theorem test_amend_refusals :
    (answeredBy (.amend 0 1 7 amendAll) office .notFound && answeredBy (.amend 0 1 100200455 amendAll) marked .quarantined &&
      answeredBy (.amend 0 1 100200710 amendAll) office .quarantined && answeredBy (.amend 0 1 100200455 amendAll) (withQuote .held) .meterBusy &&
      ([⟨1, 16, 0, 0, 0, 0⟩, ⟨4, 0, 0, 51, 0, 0⟩, ⟨8, 0, 0, 0, 2, 0⟩, ⟨16, 0, 0, 0, 0, 16⟩] : List AmendFields).all
        (fun f => answeredBy (.amend 0 1 100200455 f) office .outOfRange) &&
      answeredBy (.amend 0 1 100200455 ⟨1, 4, 0, 0, 0, 0⟩) office .noPlan && answeredBy (.amend 0 1 100200455 ⟨0, 16, 0, 51, 2, 16⟩) office .ok &&
      versionFails (.amend 0 1 100200455 amendAll) office) = true := by decide +kernel

/-- A RESTORE at the tops of its ranges, with a last issue that ends at the last TID it writes, 64 minutes ahead of the clock. -/
def restoreTop : RestoreFields := ⟨1, 15, 15, 15, 31, 213, 60000, 10000000, 50, 99999, 298469, 6, 60000, 2000, 15, 0⟩

theorem test_witness_RestoreWritesVersion :
    (took (.restore 0 1 100200710 restoreTop) office (fun g => decide (g.clk.minute + 64 = 298474) && decide (restoreTop.stamp ≤ g.clk.month) &&
        (g.dir.lookup 100200710).isSome && g.quoteLane 100200710 == none && (restoreIssue restoreTop).all (·.valid 298474) &&
        (takeSlot g).any fun x => writes x.2 && writes (writeSlot x.1 saleRecord x.2)) && (restoreIssue restoreTop).isSome &&
      RecordState.suspended.code == 1) = true := by decide +kernel

/-- RESTORE of the bad record: last TID 298,474, the quarantine cleared (R20). -/
theorem test_restore :
    gives (.restore 0 1 100200710 restoreTop) marked (fun t => answer t == some (.ok, fieldBytes [(3, 298474)]) &&
      t.dir.lookup 100200710 == some ⟨100200710, 2210, false⟩) = true := by decide +kernel

/-- RESTORE's refusals in their order and its failed writes (R3, R19). -/
theorem test_restore_refusals :
    (([{ restoreTop with state := 2 }, { restoreTop with zone := 16 }, { restoreTop with plan := 16 }, { restoreTop with revision := 16 },
        { restoreTop with stamp := 214 }, { restoreTop with units := 60001 }, { restoreTop with arrears := 10000001 },
        { restoreTop with rate := 51 }, { restoreTop with carry := 100000 }, { restoreTop with firstTid := 298470 },
        { restoreTop with count := 5 }, { restoreTop with credit := 60001 }, { restoreTop with free := 2001 },
        { restoreTop with fromRev := 16 }] : List RestoreFields).all (fun f => answeredBy (.restore 0 1 100200710 f) office .outOfRange) &&
      answeredBy (.restore 0 1 0 restoreTop) office .outOfRange && answeredBy (.restore 0 1 7 restoreTop) office .notFound &&
      answeredBy (.restore 0 1 100200455 restoreTop) (withQuote .held) .meterBusy && versionFails (.restore 0 1 100200710 restoreTop) office) =
        true := by decide +kernel

theorem test_witness_SuspendWritesVersion :
    (took (.suspend 0 1 100200455) (withQuote .held) (fun g => (g.record 903).intact && (g.record 903).state == .active &&
        g.quoteLane 100200455 == some 8 && (takeSlot g).any fun x => writes x.2 && writes (writeSlot x.1 saleRecord x.2)) &&
      took (.suspend 0 1 100200455) office (fun g => g.quoteLane 100200455 == none) &&
      took (.suspend 0 1 100200301) office (fun g => (g.record 17).intact && (g.record 17).state == .suspended)) = true := by decide +kernel

/-- SUSPEND's refusals and its failed writes, which leave the quote (R3, R22). -/
theorem test_suspend_refusals :
    (answeredBy (.suspend 0 1 7) office .notFound && answeredBy (.suspend 0 1 100200455) marked .quarantined &&
      answeredBy (.suspend 0 1 100200710) office .quarantined && versionFails (.suspend 0 1 100200455) (withQuote .held)) = true := by decide +kernel

theorem test_witness_ResumeWritesVersion :
    (took (.resume 0 1 100200301) office (fun g => (g.record 17).intact && (g.record 17).state == .suspended &&
        (takeSlot g).any fun x => writes x.2 && writes (writeSlot x.1 saleRecord x.2)) &&
      took (.resume 0 1 100200455) office (fun g => (g.record 903).intact && (g.record 903).state == .active) &&
      took (.resume 0 1 100200455) marked (fun g => (g.dir.lookup 100200455).any (·.quarantined)) &&
      took (.resume 0 1 100200710) office (fun g => !(g.record 44).intact) &&
      took (.resume 0 1 7) office (fun g => g.dir.lookup 7 == none)) = true := by decide +kernel

/-- RESUME writes a month-211 record rolled to month 213 (R4, R23). -/
theorem test_resume_rolls :
    gives (.resume 0 1 100200301) office (fun t => (t.record 2210).state == .active && (t.record 2210).stamp == 213 &&
      (t.record 2210).units == 0 && (t.dir.lookup 100200301).any (·.slot == 2210)) = true := by decide +kernel

/-- RESUME's failed writes (R3, R23). -/
theorem test_resume_fails : versionFails (.resume 0 1 100200301) office = true := by decide +kernel

/-- The retirement of the first of three meters, and of the last. -/
def retiring (m slot c : Nat) : State := office.withDir { office.dir with change := some (.retiring m slot c) }

theorem test_witness_DirectorySteps :
    inFlight.supply = true ∧ inFlight.startUp = .done ∧ writes inFlight = true ∧ writes failing = false ∧
      inFlight.dir.change = some (.enrolling 100200502 1488 false 2 5) ∧ inFlight.dir.entries.length = 5 ∧
      inFlight.dir.entries[4]? = some ⟨100201388, 6, false⟩ ∧ inFlight.dir.nextStep = some .enrolMove ∧
      (left .enrolMoveStep (left .enrolMoveStep (left .enrolMoveStep inFlight))).dir.change = some (.enrolling 100200502 1488 false 2 2) ∧
      (left .enrolMoveStep (left .enrolMoveStep (left .enrolMoveStep inFlight))).dir.nextStep = some .placing ∧
      (retiring 100200301 17 0).dir.entries[1]? = some ⟨100200455, 903, false⟩ ∧ (retiring 100200301 17 0).dir.nextStep = some .retireMove ∧
      (retiring 100200710 44 2).dir.entries.length = 2 + 1 ∧ (retiring 100200710 44 2).dir.nextStep = some .closing ∧
      inFlight.dir.ordered ∧ (retiring 100200301 17 0).dir.ordered := by decide +kernel

/-- The retirement of the lowest of three meters: two moves and the closing step, which frees its slot (R12). -/
theorem test_retirement :
    let t := left .closingStep (left .retireMoveStep (left .retireMoveStep (retiring 100200301 17 0)))
    t.dir = ⟨[⟨100200455, 903, false⟩, ⟨100200710, 44, false⟩], none⟩ ∧ t.ast.free = [17, 2210, 2211, 2212] := by decide +kernel

/-- A ZONE SET of zone 15 with a current revision in slot 9, and one that keeps the keys of zone 1. -/
def zoneNew (keys : Nat) : ZoneFields := ⟨1, 2 ^ 40 - 1, 2 ^ 40 - 1, 15, keys, 15, 9, 0, 7⟩

theorem test_witness_ZoneSetWrites :
    (took (.zoneSet 0 1 15 (zoneNew 1)) office (fun g => !g.fmn.configLock && (g.slotAt 9).isLoaded && writes g &&
        (List.range 16).all fun z => z == 15 || !(g.zoneAt z).names 9) &&
      took (.zoneSet 0 1 15 (zoneNew 2)) bareZones (fun g => (g.slotAt 9).isLoaded && (g.slotAt 7).isLoaded && writes g &&
        (List.range 16).all fun z => z == 15 || !(g.zoneAt z).names 9 && !(g.zoneAt z).names 7) &&
      took (.zoneSet 0 1 1 (zoneNew 0)) office (fun g => (g.zoneAt 1).action == .accept && writes g) &&
      took (.zoneSet 0 1 1 { zoneNew 0 with action := 0 }) office (fun g => writes g)) = true := by decide +kernel

theorem test_witness_KeyRollAdvances :
    (took (.keyRoll 0 1 1 9) office (fun g => !g.fmn.configLock && (g.zoneAt 1).current == some ⟨5, 7⟩ && !g.slotInUse 9 &&
        (g.slotAt 9).isLoaded && writes g) &&
      took (.keyRoll 0 1 15 2) office (fun g => (g.zoneAt 15).action == .unused) &&
      took (.keyRoll 0 1 1 3) office (fun g => g.slotInUse 3) &&
      took (.keyRoll 0 1 1 15) office (fun g => !g.slotInUse 15 && !(g.slotAt 15).isLoaded)) = true := by decide +kernel

/-- KEY ROLL's ranges, at each bound (R33). -/
theorem test_key_roll_ranges :
    (([.keyRoll 0 1 16 9, .keyRoll 0 1 1 1, .keyRoll 0 1 1 16] : List Instr).all (answeredBy · office .outOfRange) &&
      answeredBy (.keyRoll 0 1 1 15) office .keyUnavailable && answeredBy (.keyRoll 0 1 1 7) office .slotInUse) = true := by decide +kernel

/-- A key wrapped under slot 0, and the office with slot 0 empty. -/
def wrapped : Nat := (encipher (keyN 0) (keyN 12)).toNat
/-- The check value of the key wrapped. -/
def wrappedCheck : Nat := (checkValue (keyN 12)).toNat
/-- The office with slot 0 empty. -/
def noTransport : State := office.withZks { office.zks with slots := office.zks.slots.set 0 .empty }

theorem test_witness_KeyLoadStores :
    (took (.keyLoad 0 1 12 wrapped wrappedCheck) { office with tcu := ⟨true, 253⟩ } (fun g => !g.fmn.configLock && !g.fmn.zeroisePending &&
        !g.slotInUse 12 && decide (g.sound 0 (keyN 0)) && decide (g.calm 3) && writes (g.used 3) &&
        decipher (keyN 0) (BitVec.ofNat 64 wrapped) == keyN 12) &&
      took (.keyLoad 0 1 1 wrapped (wrappedCheck + 1)) office (fun g => decide (g.sound 0 (keyN 0)) && decide (g.calm 3)) &&
      took (.keyLoad 0 1 0 (keyN 12).toNat wrappedCheck) noTransport (fun g => !(g.slotAt 0).isLoaded && decide (g.calm 1) &&
        writes (g.used 1))) = true := by decide +kernel

/-- KEY LOAD of a wrapped key makes its slot LOADED at three uses (R34, R35). -/
theorem test_key_load :
    gives (.keyLoad 0 1 12 wrapped wrappedCheck) office (fun t => t.slotAt 12 == loadedN 12 && t.tcu.uses == 3) = true := by decide +kernel

/-- KEY LOAD's refusals, and a failed write, which leaves the slots (R32). -/
theorem test_key_load_refusals :
    (answeredBy (.keyLoad 0 1 16 0 0) office .outOfRange && answeredBy (.keyLoad 0 1 0 0 0) office .slotInUse && answeredBy (.keyLoad 0 1 7 0 0) office .slotInUse &&
      answeredBy (.keyLoad 0 1 12 wrapped wrappedCheck) (cipherFailed []) .cipherFault &&
      gives (.keyLoad 0 1 12 wrapped wrappedCheck) failing (fun t => t.zks == office.zks && (answer t).map (·.1) == some .storeFault &&
        t.fmn.stack == [⟨0, .storeWrite, 5⟩])) = true := by decide +kernel

/-- The office with slot 7's stored key altered, and with slot 7's erasing write owed. -/
def damaged : State := office.withZks { office.zks with slots := office.zks.slots.set 7 (.loaded (keyN 8) (checkValue (keyN 7))) }
/-- The office with slot 7's erasing write owed. -/
def owed (fails : List Bool) : State := { office with zks := { office.zks with erasing := [7] }, env := ⟨fails, [], [], []⟩ }

theorem test_witness_FailedCheckErases :
    damaged.slotAt 7 = .loaded (keyN 8) (checkValue (keyN 7)) ∧ checkValue (keyN 8) ≠ checkValue (keyN 7) ∧ damaged.calm 1 ∧
      writes (damaged.used 1) = true ∧ writes ({ damaged with env := ⟨[true], [], [], []⟩ }.used 1) = false ∧ (owed []).supply = true ∧
      (owed []).zks.erasing.contains 7 = true ∧ writes (owed []) = true ∧ writes (owed [true]) = false ∧
      office.zks.erasing.contains 7 = false := by decide +kernel

/-- The plan fields of plan 3, and of one block only, at the tops of their ranges. -/
def planFields3 : PlanFields := ⟨1500, 1000, 12000, 500, 4, 500, 3500, 6000, 12050, 16875, 21340, 25990⟩
/-- A plan of one block at the tops of its ranges. -/
def planFieldsTop : PlanFields := ⟨100000, 100000, 60000, 2000, 1, 0, 0, 0, 100000, 0, 0, 0⟩

theorem test_witness_PlansStagedAndArmed :
    (took (.loadPlan 0 1 15 0 planFields3) office (fun g => !g.fmn.configLock && writes g) && planValid planFields3 && planValid planFieldsTop &&
      took (.loadPlan 0 1 15 0 planFieldsTop) office (fun g => writes g) &&
      took (.loadPlan 0 1 0 0 { planFields3 with price4 := 100001 }) office (fun _ => true) &&
      took (.loadPlan 0 1 0 0 { planFields3 with bound1 := 0 }) office (fun _ => true) &&
      took (.loadPlan 0 1 15 1 planFields3) office (fun g => writes g) && took (.loadPlan 0 1 16 1 planFields3) office (fun _ => true) &&
      took (.loadPlan 0 1 0 2 planFields3) office (fun _ => true) && took (.loadPlan 0 1 0 0 { planFieldsTop with free := 2001 }) office (fun _ => true) &&
      took (.armPlans 0 1 0 4095) office (fun g => writes g && decide (g.clk.month < 4095)) &&
      took (.armPlans 0 1 0 214) office (fun g => decide (g.clk.month < 214)) && took (.armPlans 0 1 0 213) office (fun g => g.clk.month == 213) &&
      took (.armPlans 0 1 2 214) office (fun _ => true) && took (.armPlans 0 1 1 0) office (fun g => g.ttb.armed != none && writes g) &&
      took (.armPlans 0 1 1 0) (office.withTtb { office.ttb with armed := none }) (fun g => g.ttb.armed == none)) = true := by decide +kernel

/-- A bound of 0, a bound equal to the one before it, a bound of 60,001 and a price of 100,001 in use are OUT_OF_RANGE; of an unused block they
are not looked at (R46, R48). -/
theorem test_load_plan_ranges :
    ([{ planFields3 with bound1 := 0 }, { planFields3 with bound2 := 500 }, { planFields3 with bound3 := 60001 },
        { planFields3 with price2 := 0 }, { planFields3 with price4 := 100001 }] : List PlanFields).all (fun f =>
      gives (.loadPlan 0 1 15 0 f) office fun t => answer t == some (.outOfRange, [])) = true ∧
    gives (.loadPlan 0 1 15 0 { planFieldsTop with bound1 := 60001, price4 := 0 }) office (fun t => answer t == some (.ok, [15, 1, 1])) = true := by
  decide +kernel

/-- LOAD PLAN stages plan 3 and disarms the bank (R49). -/
theorem test_load_plan :
    gives (.loadPlan 0 1 15 0 planFields3) office (fun t => pick t.ttb.staged 15 == some plan3 && t.ttb.armed == none &&
      answer t == some (.ok, [15, 1, 1])) = true := by decide +kernel

theorem test_witness_ConservationIdentity :
    (computeCredit (caseRecord 420 730 8000 20 false true false) plan3 20000 none).isOk = true ∧
      (computeCredit (caseRecord 11900 1430 0 0 true true true) plan3 10000 none).isOk = true ∧
      (computeCredit (caseRecord 60000 99999 0 50 true true false) { plan3 with ceiling := 60000 } 0 none).isOk = true := by decide +kernel

/-- Case A's computation on the sale's record. -/
def saleFigures : Except Status Figures := computeCredit (saleRecord.rolled 213) plan3 20000 none

/-- The office with the meter already at revision 5, so that no key change is due, and the review counter PENDING. -/
def noChange : State :=
  { office with
    ast := ⟨[(903, Record.sealed { saleRecord with revision := 5, lastTid := none })], office.ast.free⟩
    qtb := { office.qtb with review := .pending } }

theorem test_witness_QuoteOpens :
    (took (.quote 2 1 100200455 20000) office (fun g => g.quoteAt 2 == none && g.dir.lookup 100200455 == some ⟨100200455, 903, false⟩ &&
        saleRecord.intact && saleRecord.state == .active && g.quoteLane 100200455 == none && (g.zoneAt 1).action == .accept &&
        (g.zoneAt 1).current == some ⟨5, 7⟩ && (g.zoneAt 1).previous == some ⟨4, 3⟩ && (g.slotAt 3).isLoaded && (g.slotAt 7).isLoaded &&
        g.tcu.passed && !g.restrictedMode && g.planAt 3 == some plan3 && saleFigures.isOk && decide (20000 ≤ g.flt.balance - g.flt.reserved) &&
        (takeSlot (setNote 2 .none g)).any (fun x => x.1 == 2210 && writes x.2) && g.ast.slots.wf) &&
      took (.quote 8 1 100200455 20000) noChange (fun g => g.record 903 == Record.sealed { saleRecord with revision := 5, lastTid := none } &&
        (g.record 903).intact && (g.zoneAt 1).current == some ⟨5, 7⟩ && g.qtb.review == .pending &&
        (takeSlot (setNote 8 .none g)).any fun x => writes x.2) &&
      took (.quote 2 1 100200455 20000) failing (fun g => g.env.mid == [] && g.ast.free != [] && !writes (setNote 2 .none g) &&
        saleFigures.isOk)) = true := by decide +kernel

/-- A QUOTE whose shadow write fails is STORE_FAULT, with the slot back in the pool, nothing reserved and no quote (R74). -/
theorem test_quote_failed_write :
    gives (.quote 2 1 100200455 20000) failing (fun t => answer t == some (.storeFault, []) && t.quoteAt 2 == none && t.flt.reserved == 0 &&
      t.ast == failing.ast && t.fmn.hold == 5) = true := by decide +kernel

/-- The refusals of R71, each from a state in which every check before it passes. -/
theorem test_quote_refusals :
    ([(quoted, 2, 100200455, 0, .quoteOpen), (office, 2, 7, 0, .notFound), (office, 2, 100200710, 0, .quarantined),
        (office, 2, 100200301, 0, .suspended), (withQuote .opened, 2, 100200455, 0, .meterBusy), (embargoed, 2, 100200455, 0, .zoneEmbargo),
        (strandedMeter, 2, 100200455, 0, .keyUnavailable), (unloadedSlot 7, 2, 100200455, 0, .keyUnavailable),
        (unloadedSlot 3, 2, 100200455, 0, .keyUnavailable), (office.withTcu ⟨false, 0⟩, 2, 100200455, 0, .cipherFault),
        (office.withClk { office.clk with minute := 16777215 }, 2, 100200455, 0, .clockEnd), (office, 2, 100200455, 10000001, .outOfRange),
        (office.withTtb { office.ttb with active := State.reset.ttb.active }, 2, 100200455, 0, .noPlan),
        (office, 2, 100200455, 2499, .tenderLow), (aheadBy 16777215, 2, 100200455, 20000, .clockEnd),
        (aheadBy 298469, 2, 100200455, 20000, .rateLimit),
        (office.withFlt { office.flt with balance := 19999 }, 2, 100200455, 20000, .floatShort)] :
      List (State × Nat × Nat × Nat × Status)).all (fun c =>
        answeredBy (.quote c.2.1 1 c.2.2.1 c.2.2.2.1) c.1 c.2.2.2.2) = true := by decide +kernel

/-- A zeroise between checks 7 and 13 frees another lane's 20,000, the QUOTE passes check 13, is answered OK, and its quote is void with note
VOIDED as soon as it is written (R76, R161). -/
theorem test_quote_meets_zeroise :
    let s := { withQuote .held with
      dir := ⟨[⟨100200455, 903, false⟩, ⟨100200999, 17, false⟩], none⟩
      flt := { office.flt with balance := 20000, reserved := 20000 }
      ast := ⟨[(17, Record.sealed { saleRecord with meter := 100200999 }), (903, saleRecord)], office.ast.free⟩ }
    gives (.quote 2 1 100200999 20000) s (fun t => (answer t).map (·.1) == some .floatShort) = true ∧
      gives (.quote 2 1 100200999 20000) { s with env := ⟨[], [], [(3, .tamper)], []⟩ } (fun t => (answer t).map (·.1) == some .ok &&
        t.quoteAt 2 == none && t.quoteAt 8 == none && t.noteAt 2 == .voided && t.noteAt 8 == .voided && t.flt.reserved == 0 &&
        t.slotAt 7 == .erased) = true := by decide +kernel

/-- The parts of the sale's set. -/
def saleParts : List (Block × TokenClass × Nat) :=
  TokenSet.parts ⟨some 5, 899, 500⟩ (meterKey (keyN 7) 100200455 5 9) (meterKey (keyN 3) 100200455 4 9)

/-- Lane 2's quote opened with a fresh use counter. -/
def freshQuote : State := left (.quote 2 1 100200455 20000) office

/-- Lane 2's quote with no key change due. -/
def plainQuote : State := left (.quote 2 1 100200455 20000) { noChange with qtb := office.qtb }

theorem test_witness_IssueCommits :
    (took (.issue 2 2) freshQuote (fun g => (g.quoteAt 2).any (fun q => q.state == .opened && q.change == some ⟨4, 3⟩ && q.key == ⟨5, 7⟩ &&
          q.count == 6 && !q.review) && decide (g.sound 7 (keyN 7)) && decide (g.sound 3 (keyN 3)) && saleParts.length == 6 &&
        decide (g.calm 10) && writes (g.used 10)) &&
      took (.issue 2 2) plainQuote (fun g => (g.quoteAt 2).any (fun q => q.state == .opened && q.change == none) && decide (g.calm 4) &&
        writes (g.used 4)) &&
      took (.issue 8 2) (withQuote .opened) (fun g => (g.quoteAt 8).any (·.review) && decide (g.calm 10) && writes (g.used 10))) = true := by
  decide +kernel

/-- A review-tagged quote's issue that commits restarts the review counter in COUNTING at 0 to 7 (R94). -/
theorem test_issue_restarts_review :
    gives (.issue 8 2) (withQuote .opened) (fun t => (answer t).map (·.1) == some .ok &&
      match t.qtb.review with
      | .counting _ => true
      | _ => false) = true := by decide +kernel

/-- Whether a form of a set gives tokens, and the state it gives them on makes, or fails, its next write. -/
def formed (r : Res (List Block)) (made : Bool) : Bool :=
  match r with
  | .ok _ t => writes t == made
  | .no _ _ => false

/-- Whether a form of a set fails. -/
def refused (r : Res (List Block)) : Bool :=
  match r with
  | .ok _ _ => false
  | .no _ _ => true

/-- The form of lane 2's set on a state. -/
def formOn (s : State) : Res (List Block) :=
  formSet 1 100200455 ⟨5, 7⟩ (some ⟨4, 3⟩) 298410 ⟨some 5, 899, 500⟩ s

theorem test_witness_VoidsRelease :
    (quoted.quoteAt 2).any (fun q => !q.review) = true ∧ ((withQuote .held).quoteAt 8).any (·.review) = true ∧ 8 ∈ counterLanes ∧
      took (.issue 2 2) (quoted.withClk { quoted.clk with minute := 16777215 }) (fun g => (g.quoteAt 2).any (fun q => q.state == .opened) &&
        g.tcu.passed) = true ∧
      took (.issue 2 2) (quoted.withClk { quoted.clk with minute := 16777211 }) (fun g => g.tcu.passed) = true ∧
      took (.issue 2 2) (quoted.withTcu ⟨false, 0⟩) (fun g => (g.quoteAt 2).any (fun q => q.state == .opened) && !g.tcu.passed) = true ∧
      took (.issue 2 2) quoted (fun g => formed (formOn g) true) = true ∧
      took (.issue 2 2) { quoted with env := ⟨[true], [], [], []⟩ } (fun g => formed (formOn g) false) = true ∧
      took (.issue 2 2) { quoted with env := ⟨[false, true], [], [], []⟩ } (fun g => formed (formOn g) true) = true ∧
      took (.issue 2 2) (quoted.withZks damaged.zks) (fun g => refused (formOn g)) = true ∧
      (servingLane2 true).serving.any (fun v => v.cause == none) = true ∧ (strike .voided (servingLane2 true)).serving.any
        (fun v => v.cause == some .voided) = true := by decide +kernel

/-- An issue at minute 16,777,211, whose last of six identifiers would be 16,777,216, is CLOCK_END and voids its quote; at 16,777,210 it is
OK. While the cipher is FAILED it is CIPHER_FAULT and the quote stays OPEN (R79, R80, R99). -/
theorem test_issue_refused :
    gives (.issue 2 2) (quoted.withClk { quoted.clk with minute := 16777211 }) (fun t => answer t == some (.clockEnd, []) &&
        t.quoteAt 2 == none) = true ∧
      gives (.issue 2 2) (quoted.withClk { quoted.clk with minute := 16777210 }) (fun t => (answer t).map (·.1) == some .ok) = true ∧
      gives (.issue 2 2) (quoted.withTcu ⟨false, 0⟩) (fun t => answer t == some (.cipherFault, []) && t.quoteAt 2 == quoted.quoteAt 2) =
        true := by decide +kernel

/-- An issue whose commit step's write fails is STORE_FAULT, its quote void and the float as it was (R82). -/
theorem test_failed_commit :
    gives (.issue 2 2) { freshQuote with env := ⟨[false, true], [], [], []⟩ } (fun t => answer t == some (.storeFault, []) && t.quoteAt 2 == none &&
      t.flt.balance == 1000000 && t.flt.reserved == 0 && t.ast.free == [2210, 2211, 2212]) = true := by decide +kernel

/-- The office with a note on lane 1. -/
def noted (n : Note) : State := office.withLqa { office.lqa with notes := office.lqa.notes.set 0 n }

theorem test_witness_WithdrawAndNotes :
    (took (.withdraw 8 1) (withQuote .held) (fun g => (g.quoteAt 8).any fun q => q.state != .issuing) &&
      took (.withdraw 1 1) (noted .expired) (fun g => g.quoteAt 1 == none && g.noteAt 1 == .expired) &&
      took (.withdraw 1 1) (noted .voided) (fun g => g.noteAt 1 == .voided) && took (.withdraw 1 1) office (fun g => g.noteAt 1 == .none) &&
      took (.issue 1 1) (noted .expired) (fun g => g.noteAt 1 == .expired) && took (.issue 1 1) (noted .voided) (fun g => g.noteAt 1 == .voided) &&
      took (.issue 1 1) office (fun g => g.quoteAt 1 == none) &&
      took (.issue 8 1) (withQuote .held) (fun g => (g.quoteAt 8).any fun q => q.state == .held)) = true := by decide +kernel

/-- A clock at a minute and second, on a state. -/
def clockAt (minute second : Nat) (s : State) : State := s.withClk { s.clk with minute := minute, second := second }

theorem test_witness_ExpiriesAct :
    (withQuote .held).supply = true ∧ ((withQuote .held).quoteAt 8).isSome = true ∧
      ((withQuote .held).quoteAt 8).any (·.leaseReached (clockAt 298413 12 office).clk) = true ∧
      ((withQuote .issuing).quoteAt 8).any (·.leaseReached (clockAt 298413 12 office).clk) = true ∧
      ((withQuote .held).quoteAt 8).any (·.leaseReached (clockAt 298413 11 office).clk) = false ∧ office.flt.deadline = some 300000 ∧
      (clockAt 300000 0 office).clk.minute = 300000 ∧ office.clk.minute < 300000 ∧ State.reset.flt.deadline = none := by decide +kernel

/-- The lease expiry voids the quote with note EXPIRED and releases its tender (R76, R77). -/
theorem test_lease_expiry :
    gives (.leaseExpiry 2) (clockAt 298413 12 quoted) (fun t => t.quoteAt 2 == none && t.noteAt 2 == .expired && t.flt.reserved == 0) = true ∧
      gives (.leaseExpiry 2) (clockAt 298413 11 quoted) (fun t => (t.quoteAt 2).isSome) = true := by decide +kernel

theorem test_witness_CountersignRules :
    (took (.countersign 0 1 0) office (fun _ => true) && took (.countersign 0 1 9) office (fun _ => true) &&
      took (.countersign 0 1 8) (withQuote .held) (fun g => (g.quoteAt 8).any fun q => q.state == .held) &&
      took (.countersign 0 1 8) (withQuote .opened) (fun g => (g.quoteAt 8).any fun q => q.state == .opened) &&
      took (.countersign 0 1 1) office (fun g => g.quoteAt 1 == none) && took (.setCountersign 0 1 1024 0) office (fun g => !g.fmn.configLock) &&
      took (.setCountersign 0 1 0 10000001) office (fun _ => true) &&
      took (.setCountersign 0 1 1023 10000000) office (fun g => writes g && g.qtb.review == .counting 0) &&
      took (.setCountersign 0 1 0 0) noChange (fun g => writes g && g.qtb.review == .pending) &&
      took (.setCountersign 0 1 7 0) (withQuote .held) (fun g => writes g && g.qtb.review == .stopped 8)) = true := by decide +kernel

/-- The issued record's last set, and a record whose last issue has no key change. -/
theorem test_witness_ReprintRebuilds :
    (took (.reprint 6 3 100200455) issued (fun g => (g.record 2210).intact && (g.record 2210).issue == some ⟨298410, 6, 899, 500, some ⟨4, 5⟩⟩ &&
        (g.zoneAt 1).keyFor 5 == some ⟨5, 7⟩ && (g.zoneAt 1).keyFor 4 == some ⟨4, 3⟩ && decide (g.sound 7 (keyN 7)) &&
        decide (g.sound 3 (keyN 3)) && decide (g.calm 10)) &&
      took (.reprint 6 3 100200455) office (fun g => (g.record 903).issue == some ⟨291006, 2, 640, 500, none⟩ &&
        (g.zoneAt 1).keyFor 4 == some ⟨4, 3⟩ && decide (g.sound 3 (keyN 3)) && decide (g.calm 4)) &&
      took (.reprint 6 3 100200301) office (fun g => (g.record 17).intact && (g.record 17).issue == none)) = true := by decide +kernel

/-- REPRINT and VERIFY of a meter not found, a quarantined one and a bad record (R108, R112). -/
theorem test_reprint_verify_refusals :
    ([fun m => .reprint 6 3 m, fun m => .verify 6 3 m 0] : List (Nat → Instr)).all (fun c => answeredBy (c 7) office .notFound &&
      answeredBy (c 100200455) marked .quarantined && answeredBy (c 100200710) office .quarantined) = true := by decide +kernel

theorem test_witness_VerifyDecodes :
    (took (.verify 6 4 100200455 (tokenAt 4)) issued (fun g => (g.record 2210).revision == 5 && (g.zoneAt 1).keyFor 5 == some ⟨5, 7⟩ &&
        decide (g.sound 7 (keyN 7)) && decide (g.calm 3) &&
        (readToken (decipher (meterKey (keyN 7) 100200455 5 9) (BitVec.ofNat 64 (tokenAt 4)))).isSome) &&
      took (.verify 6 4 100200455 (tokenAt 0)) issued (fun g => decide (g.calm 6) && (g.zoneAt 1).previous == some ⟨4, 3⟩ &&
        decide (g.sound 3 (keyN 3)) && readToken (decipher (meterKey (keyN 7) 100200455 5 9) (BitVec.ofNat 64 (tokenAt 0))) == none &&
        (readToken (decipher (meterKey (keyN 3) 100200455 4 9) (BitVec.ofNat 64 (tokenAt 0)))).isSome) &&
      took (.verify 6 4 100200455 1) issued (fun g => decide (g.calm 6) &&
        readToken (decipher (meterKey (keyN 7) 100200455 5 9) 1) == none && readToken (decipher (meterKey (keyN 3) 100200455 4 9) 1) == none) &&
      took (.verify 6 4 100200455 1) (issued.withZks (unloadedSlot 3).zks) (fun g => (g.zoneAt 1).previous == some ⟨4, 3⟩ &&
        !(g.slotAt 3).isLoaded && decide (g.sound 7 (keyN 7))) &&
      took (.verify 6 4 100200455 1) (issued.withZks strandedMeter.zks) (fun g => (g.zoneAt 1).previous == none &&
        (g.zoneAt 1).keyFor 5 == some ⟨5, 7⟩)) = true := by decide +kernel

/-- The authenticator of a grant record under slot 1's key. -/
def grantAuth (sequence amount hours number : Nat) : Nat := (chained (keyN 1) (grantBlocks sequence amount hours number)).toNat

theorem test_witness_GrantRaisesFloat :
    (took (.grant 0 1 8 1 1 3 (grantAuth 8 1 1 3)) office (fun g => decide (g.sound 1 (keyN 1)) && decide (g.calm 3) && g.flt.sequence == 7 &&
        g.flt.number == 3 && writes (g.used 3)) &&
      took (.grant 0 1 8 1000000000 720 3 (grantAuth 8 1000000000 720 3)) office (fun g => writes (g.used 3)) &&
      took (.grant 0 1 8 1 1 3 (grantAuth 8 1 1 3 + 1)) office (fun _ => true) &&
      took (.grant 0 1 7 1 1 3 (grantAuth 7 1 1 3)) office (fun _ => true) &&
      took (.grant 0 1 8 1 1 4 (grantAuth 8 1 1 4)) office (fun _ => true)) = true := by decide +kernel

/-- A grant clamped at the ceiling of 50,000,000, its deadline twelve hours ahead (R127). -/
theorem test_grant_clamps :
    gives (.grant 0 1 8 50000000 12 3 (grantAuth 8 50000000 12 3)) office (fun t => t.flt.balance == 50000000 && t.tcu.uses == 3 &&
      answer t == some (.ok, fieldBytes [(4, 50000000), (4, 1000000), (3, 299130), (2, 8)])) = true := by decide +kernel

/-- GRANT's ranges at each bound, at no use, and a failed write, which leaves the float (R125, R127). -/
theorem test_grant_refusals :
    (([.grant 0 1 8 0 1 3 0, .grant 0 1 8 1000000001 1 3 0, .grant 0 1 8 1 0 3 0, .grant 0 1 8 1 721 3 0] : List Instr).all
        (fun i => answeredBy i office .outOfRange && gives i office fun t => t.tcu.uses == 0) &&
      gives (.grant 0 1 8 1 1 3 (grantAuth 8 1 1 3)) failing (fun t => t.flt == office.flt && (answer t).map (·.1) == some .storeFault &&
        t.fmn.stack == [⟨0, .storeWrite, 5⟩] && t.tcu.uses == 3)) = true := by decide +kernel

theorem test_witness_StatementClears :
    (took (.statement 0 1 0) office (fun g => decide (g.sound 1 (keyN 1)) && decide (g.calm 8) && writes (g.used 8)) &&
      took (.statement 0 1 1) office (fun g => g.flt.last == none) &&
      took (.statement 0 1 1) (left (.statement 0 1 0) office) (fun g => g.flt.last.isSome)) = true := by decide +kernel

/-- STATEMENT numbers the period 4, clears the accumulators and makes eight uses; its repeat gives the same reply (R124). -/
theorem test_statement :
    let t := left (.statement 0 1 0) issued
    t.flt.number = 4 ∧ t.flt.totals = ⟨0, 0, 0, 0, 0, 0⟩ ∧ t.tcu.uses = 11 ∧ answer (left (.statement 0 2 1) t) = answer t := by decide +kernel

/-- A STATEMENT whose write fails leaves the float; a flag of 2 is OUT_OF_RANGE (R124). -/
theorem test_statement_fails :
    (gives (.statement 0 1 0) failing (fun t => t.flt == office.flt && (answer t).map (·.1) == some .storeFault &&
        t.fmn.stack == [⟨0, .storeWrite, 5⟩]) && answeredBy (.statement 0 1 2) office .outOfRange) = true := by decide +kernel

theorem test_witness_SetLimitsWrites :
    (took (.setLimits 0 1 1000000000 10000000 29) office (fun g => !g.fmn.configLock && decide (g.flt.balance ≤ 1000000000) && writes g) &&
      took (.setLimits 0 1 1000000 0 601) failing (fun g => decide (g.flt.balance ≤ 1000000) && !writes g) &&
      took (.setLimits 0 1 999999 0 30) office (fun g => decide (999999 < g.flt.balance)) && took (.setLimits 0 1 0 0 600) office (fun _ => true) &&
      took (.setLimits 0 1 1000000001 0 0) office (fun _ => true) && took (.setLimits 0 1 1000000 10000001 0) office (fun _ => true) &&
      took (.setLimits 0 1 1 1 1) (office.withFmn { office.fmn with configLock := true }) (fun g => g.fmn.configLock)) = true := by
  decide +kernel

/-- SET LIMITS takes a lease of 29 seconds as 30 and says so (R129). -/
theorem test_set_limits :
    gives (.setLimits 0 1 1000000000 10000000 29) office (fun t => t.flt.lease == 30 &&
      answer t == some (.ok, fieldBytes [(4, 1000000000), (4, 10000000), (2, 30), (1, 1)])) = true := by decide +kernel

theorem test_witness_SetClockJumps :
    (took (.setClock 0 1 298409) office (fun g => decide (298409 < g.clk.minute)) && took (.setClock 0 1 298410) office (fun _ => true) &&
      took (.setClock 0 1 307199) office (fun g => g.clk.boundary == some 307200) &&
      took (.setClock 0 1 307200) office (fun g => g.clk.boundary == some 307200 && writes g) &&
      took (.setClock 0 1 298411) (office.withClk { office.clk with boundary := none }) (fun g => g.clk.boundary == none)) = true := by
  decide +kernel

/-- A jump to the boundary rolls month 213 to 214, swaps the armed bank and reports both (R135, R138, R51). -/
theorem test_set_clock_rolls :
    gives (.setClock 0 1 307200) office (fun t => t.clk == ⟨0, 307200, 214, none, false⟩ && t.ttb.generation == 42 && t.planAt 3 == some plan7 &&
      t.ttb.armed == none) = true := by decide +kernel

/-- A jump whose roll's write fails keeps the month and the boundary, and the roll waits (R135, R139). -/
theorem test_set_clock_roll_fails :
    took (.setClock 0 1 307200) failing (fun g => !writes g) = true ∧
      gives (.setClock 0 1 307200) failing (fun t => t.clk == ⟨0, 307200, 213, some 307200, true⟩ && t.ttb == office.ttb &&
        t.fmn.stack == [⟨0, .storeWrite, 5⟩] && (answer t).map (·.1) == some .ok) = true := by decide +kernel

theorem test_witness_SetBoundarySets :
    (took (.setBoundary 0 1 0 298410) office (fun g => g.clk.minute == 298410) && took (.setBoundary 0 1 2 0) office (fun _ => true) &&
      took (.setBoundary 0 1 0 298411) office (fun g => writes g) && took (.setBoundary 0 1 0 298411) failing (fun g => !writes g) &&
      took (.setBoundary 0 1 1 0) office (fun g => g.clk.boundary != none && writes g) &&
      took (.setBoundary 0 1 1 0) failing (fun g => g.clk.boundary != none && !writes g) &&
      took (.setBoundary 0 1 1 0) (office.withClk { office.clk with boundary := none }) (fun g => g.clk.boundary == none)) = true := by
  decide +kernel

/-- The office at its boundary, a roll waiting or not, its next write failing or not. -/
def atBoundary (waits : Bool) (fails : List Bool) : State :=
  { office with clk := ⟨0, 307200, 213, some 307200, waits⟩, env := ⟨fails, [], [], []⟩ }

theorem test_witness_MonthRolls :
    (atBoundary false []).supply = true ∧ (atBoundary false []).startUp = .done ∧ (atBoundary false []).clk.boundary = some 307200 ∧
      (atBoundary false []).clk.rollWaiting = false ∧ (atBoundary true []).clk.rollWaiting = true ∧ writes (atBoundary false []) = true ∧
      writes (atBoundary true [true]) = false := by decide +kernel

/-- A roll at month 4095 leaves the month and makes the boundary absent (R138). -/
theorem test_last_month :
    gives .monthRoll { atBoundary false [] with clk := ⟨0, 307200, 4095, some 307200, false⟩ } (fun t => t.clk == ⟨0, 307200, 4095, none, false⟩ &&
      t.ttb.generation == 41) = true := by decide +kernel

theorem test_witness_ClockCounts :
    (clockAt 5 58 office).clk.second < 59 ∧ (clockAt 16777214 59 office).clk.second = 59 ∧ (clockAt 16777214 59 office).clk.minute < 16777215 ∧
      (clockAt 16777215 59 office).clk.minute = 16777215 ∧ (clockAt 16777215 58 office).clk.second = 58 := by decide +kernel

theorem test_witness_TimeNeverDecreases :
    (Instr.setClock 0 1 16777215).wf = true ∧ office.clk.bounded ∧ gives (.setClock 0 1 16777215) office (fun t => t.clk.minute == 16777215) = true := by
  decide +kernel

/-- Fault monitors: LOCKED, full at levels 2 and 5, holding a level-6 entry, and empty at hold level 2. -/
theorem test_witness_FaultArrives :
    locked.fmn.locked = true ∧ (⟨5, [⟨2, .storeWrite, 5⟩, ⟨0, .recordCheck, 2⟩], false, none, false, false, 0⟩ : Fmn).stack.length = 2 ∧
      (∃ e ∈ (⟨6, [⟨0, .keyCheck, 6⟩], false, none, false, false, 0⟩ : Fmn).stack, e.level = 6) ∧ office.fmn.stack.length < 2 ∧
      office.fmn.hold < 2 := by decide +kernel

theorem test_witness_HoldAndLaneLevels :
    (took (.setHold 0 1 6) office (fun _ => true) && took (.setHold 0 1 7) office (fun _ => true) &&
      took (.laneLevel 0 1 0 3) office (fun g => !g.fmn.configLock) && took (.laneLevel 0 1 9 3) office (fun _ => true) &&
      took (.laneLevel 0 1 8 7) office (fun _ => true) && took (.laneLevel 0 1 8 6) office (fun g => writes g) &&
      took (.laneLevel 0 1 1 0) office (fun g => writes g)) = true := by decide +kernel

/-- LANE LEVEL sets lane 8's level to 6 and replies its former level, 3 (R144). -/
theorem test_lane_level :
    gives (.laneLevel 0 1 8 6) office (fun t => t.levelAt 8 == 6 && t.levelAt 7 == 3 && answer t == some (.ok, [8, 3, 6])) = true := by
  decide +kernel

/-- The same office with a KEY_CHECK due between the pop and the retest. -/
def meetingFault (tests : List Bool) : State := (cipherFailed tests).withEnv ⟨[], tests, [(0, .fault .keyCheck)], []⟩

theorem test_witness_AckFaultPops :
    (took (.ackFault 0 1) office (fun g => g.fmn.stack == []) &&
      took (.ackFault 0 1) (office.withFmn { office.fmn with stack := [⟨0, .recordCheck, 2⟩], hold := 2 }) (fun g => g.tcu.passed) &&
      took (.ackFault 0 1) (cipherFailed []) (fun g => !g.tcu.passed && g.env.testFails == []) &&
      took (.ackFault 0 1) (cipherFailed [true]) (fun g => !g.tcu.passed && (midEvent g).env.testFails == [true]) &&
      took (.ackFault 0 1) (meetingFault [true]) (fun g => g.env.mid == [(0, .fault .keyCheck)] &&
        (midEvent g).env.testFails == [true])) = true := by decide +kernel

/-- ACK FAULT whose retest fails, then one whose retest passes (chapter 09, a day of faults, steps 7 and 8). -/
theorem test_retest :
    let t := left (.ackFault 0 1) (cipherFailed [true])
    t.fmn.hold = 6 ∧ t.fmn.stack = [⟨2, .cipherTest, 6⟩, ⟨0, .recordCheck, 2⟩] ∧
      (left (.ackFault 0 1) t).fmn.hold = 2 ∧ (left (.ackFault 0 1) t).tcu = ⟨true, 0⟩ := by decide +kernel

/-- A KEY_CHECK between the pop and the retest is pushed as (2, KC, 6), and the failed retest then locks the part (chapter 09, a day of
faults). -/
theorem test_fault_before_retest :
    let t := left (.ackFault 0 1) (meetingFault [true])
    t.fmn.locked = true ∧ t.fmn.stack = [⟨2, .keyCheck, 6⟩, ⟨0, .recordCheck, 2⟩] ∧ t.fmn.hold = 6 := by decide +kernel

/-- The office with the configuration lock set under a key. -/
def lockedUnder (key : Block) (fails : List Bool) : State :=
  { office with fmn := { office.fmn with configLock := true, lockKey := key }, env := ⟨fails, [], [], []⟩ }

theorem test_witness_UnlockClears :
    (took (.unlock 0 1 77) office (fun g => !g.fmn.configLock) && took (.unlock 0 1 0) (lockedUnder 0 []) (fun g => g.fmn.configLock) &&
      took (.unlock 0 1 78) (lockedUnder 77 []) (fun g => g.fmn.lockKey != BitVec.ofNat 64 78) &&
      took (.unlock 0 1 77) (lockedUnder 77 []) (fun g => g.fmn.lockKey == BitVec.ofNat 64 77 && writes g) &&
      took (.unlock 0 1 77) (lockedUnder 77 [true]) (fun g => !writes g)) = true := by decide +kernel

theorem test_witness_ConfigurationLock :
    (took (.lock 0 1 0) office (fun g => !g.fmn.configLock && !g.fmn.zeroisePending && writes g) &&
      took (.lock 0 1 (2 ^ 64 - 1)) office (fun g => writes g) && took (.lock 0 1 5) (lockedUnder 77 []) (fun g => g.fmn.configLock) &&
      took (.lock 0 1 5) (office.withFmn { office.fmn with zeroisePending := true }) (fun g => g.fmn.zeroisePending) &&
      lockable (.laneLevel 0 1 1 1) && took (.laneLevel 0 1 1 1) (lockedUnder 77 []) (fun g => g.fmn.configLock) &&
      oneWrite (.setBoundary 0 1 0 298411) && took (.setBoundary 0 1 0 298411) failing (fun g => !writes g)) = true := by decide +kernel

theorem test_witness_ZeroiseErases :
    (took (.zeroise 0 1) failing (fun g => g.env.storeFails.headD false)) = true ∧ (took (.zeroise 0 1) quoted (fun g => g.env.storeFails == [] && counterLanes.all fun k => (g.quoteAt k).all fun q => q.state != .issuing)) =
        true ∧
      quoted.supply = true ∧ quoted.tamper = false ∧ quoted.startUp = .done ∧ quoted.env.storeFails.headD false = false ∧
      failing.env.storeFails.headD false = true ∧ (office.withTamper true).tamper = true ∧ (office.withSupply false).supply = false ∧
      (office.withFmn { office.fmn with zeroisePending := true }).fmn.zeroisePending = true ∧
      writes (office.withFmn { office.fmn with zeroisePending := true }) = true := by decide +kernel

/-- ZEROISE voids lane 2's quote, erases every slot and clears the lock (R161, R37). -/
theorem test_zeroise :
    gives (.zeroise 0 1) quoted (fun t => t.slotAt 7 == .erased && t.quoteAt 2 == none && t.noteAt 2 == .voided &&
      answer t == some (.ok, fieldBytes [(1, 2), (4, 20000)])) = true := by decide +kernel

/-- A ZEROISE whose write fails is STORE_FAULT with the payload of OK, pending, every slot met as ERASED and the lock kept (R161, R175). -/
theorem test_zeroise_failed_write :
    gives (.zeroise 0 1) { quoted with env := ⟨[true], [], [], []⟩ } (fun t => t.fmn.zeroisePending && t.slotAt 7 == .erased &&
      (t.quoteAt 2).isNone && answer t == some (.storeFault, fieldBytes [(1, 2), (4, 20000)]) && t.fmn.hold == 5 &&
      t.fmn.configLock == quoted.fmn.configLock) = true := by decide +kernel

theorem test_witness_StatusReports :
    (took (.status 0 1) (withQuote .held) (fun g => g.flt.deadline == some 300000 &&
      counterLanes.all fun k => (g.quoteAt k).all fun q => q.state != .issuing) && took (.status 0 1) locked (fun _ => true) &&
      took (.status 0 1) (cipherFailed []) (fun g => g.fmn.stack.length == 2) &&
      took (.status 0 1) inFlight (fun g => g.dir.change.isSome && g.ttb.armed == some 214 && g.clk.boundary == some 307200) &&
      took (.status 0 1) (retiring 100200301 17 0) (fun g => g.dir.change.isSome) &&
      took (.status 0 1) (office.withFmn { office.fmn with latest := some ⟨.recordCheck, 2, 5, .pushed⟩ }) (fun g => g.fmn.latest.isSome) &&
      took (.status 0 1) State.reset (fun g => g.fmn.latest == none && g.flt.deadline == none && g.ttb.armed == none &&
        g.clk.boundary == none)) = true := by decide +kernel

/-- A part in start-up whose last step waits for a zeroise's write. -/
def owing (fails : List Bool) : State :=
  { office with startUp := .last, fmn := { office.fmn with zeroisePending := true }, env := ⟨fails, [], [], []⟩ }

theorem test_witness_PowerOnReset :
    quoted.tamper = false ∧ quoted.dir.change = none ∧ quoted.env.testFails = [] ∧ quoted.clk.boundary = some 307200 ∧
      quoted.clk.minute < 307200 ∧ inFlight.dir.ordered ∧ inFlight.env.storeFails = [] ∧ inFlight.dir.change.isSome = true ∧
      (office.withTamper true).tamper = true ∧ failing.env.storeFails.headD false = true ∧ (atBoundary false [true]).clk.minute = 307200 ∧
      (owing []).startUp = .last ∧ (owing []).fmn.zeroisePending = true ∧ (owing []).clk.minute < 307200 ∧
      (atBoundary false []).env.storeFails = [] ∧ (office.withSupply false).supply = false := by decide +kernel

/-- With tamper asserted, an enrolment pending and the boundary reached, start-up zeroises, places the entry, frees what no entry names and
rolls the month; a failed zeroise's write holds it up, and a retry that is made goes on to the roll (R15, R139, R162, R164). -/
theorem test_start_up :
    let s := { inFlight with tamper := true, clk := ⟨0, 307200, 213, some 307200, false⟩ }
    let t := left .powerOnReset s
    let u := left .powerOnReset { s with env := ⟨[true], [], [], []⟩ }
    t.startUp = .done ∧ t.dir.change = none ∧ t.dir.entries.length = 6 ∧ t.slotAt 7 = .erased ∧ t.clk.month = 214 ∧ t.ttb.generation = 42 ∧
      u.startUp = .zeroise ∧ u.fmn.stack = [⟨0, .storeWrite, 5⟩] ∧ u.clk.month = 213 ∧ (left .zeroiseRetry u).startUp = .done ∧
      (left .zeroiseRetry u).clk.month = 214 := by decide +kernel

/-- A zeroise's write owed before start-up's last step: a boundary reached meanwhile is rolled when the write is made (R164). -/
theorem test_last_step_waits :
    let s := (owing [true]).withClk ⟨0, 307200, 213, some 307200, false⟩
    let t := left .monthRoll s
    let u := left .zeroiseRetry t
    t.clk.month = 213 ∧ u.startUp = .last ∧ (left .zeroiseRetry u).startUp = .done ∧ (left .zeroiseRetry u).clk.month = 214 := by decide +kernel

/-- Supply lost with a quote open: nothing is served until the power-on reset, and the float's reservation is gone (R84, R164). -/
theorem test_supply_loss :
    gives .supplyLoss quoted (fun t => t.flt.reserved == 0 && t.flt.balance == 1000000 &&
      gives (.status 0 1) t (fun u => u.olk.replies == [])) = true := by decide +kernel

theorem test_witness_LockedUntilPowerOn :
    locked.fmn.locked = true ∧ gives (.ackFault 0 1) locked (fun t => t.fmn.locked) = true := by decide +kernel

theorem test_witness_StepKeepsSteady : quoted.steady ∧ (stepped threeLanes).steady := by decide +kernel

theorem test_witness_StepKeepsFloatLaw : quoted.floatLaw ∧ 0 < quoted.flt.reserved ∧ (stepped threeLanes).floatLaw := by decide +kernel

theorem test_witness_StepKeepsDirectoryOrder :
    inFlight.dir.ordered ∧ inFlight.dir.change.isSome = true ∧ (stepped (inFlight.withPending [.enrolMoveStep])).dir.ordered := by decide +kernel

end Sys2Proof.Tests
end

/-! ## The token cipher and the zone search: O23 and O28 -/

namespace Sys2Proof.Machine.KeysAndLock

open Sys2Proof Sys2Proof.Machine

/-! ### The token cipher (R41, R42) -/

theorem joined_halves (b : Block) : joined (halves b) = b := by
  have h := BitVec.extractLsb'_append_extractLsb'_eq_extractLsb' (x := b) (len₂ := 32) (show 32 = 0 + 32 from rfl)
  exact h.trans BitVec.extractLsb'_eq_self

theorem halves_joined (h : Half × Half) : halves (joined h) = h :=
  Prod.ext BitVec.extractLsb'_append_eq_left BitVec.extractLsb'_append_eq_right

/-- The round function meets the same half and subkey both times, so its two exclusive-ors cancel. -/
theorem unround_round (k : Block) (i : Nat) (h : Half × Half) : unround k (round k h i) i = h := by
  simp only [round, unround, BitVec.xor_assoc, BitVec.xor_self, BitVec.xor_zero]

theorem round_unround (k : Block) (i : Nat) (h : Half × Half) : round k (unround k h i) i = h := by
  simp only [round, unround, BitVec.xor_assoc, BitVec.xor_self, BitVec.xor_zero]

/-- Steps `f` that `g` undoes one by one are undone together when `g` takes them in reverse order. -/
theorem foldl_reverse_undoes {α β : Type} {f g : α → β → α} (h : ∀ b a, g (f a b) b = a) (bs : List β) (a : α) :
    bs.reverse.foldl g (bs.foldl f a) = a := by
  induction bs generalizing a with
  | nil => rfl
  | cons b bs ih => simp [List.foldl_append, ih, h]

/-- Settles O28: the rounds, taken back in reverse order, cancel one by one. -/
theorem decipherUndoesEncipher : Obligations.DecipherUndoesEncipher := by
  intro k b
  constructor
  · have hrounds := foldl_reverse_undoes (unround_round k) [0, 1, 2, 3, 4, 5, 6, 7] (halves b)
    unfold decipher encipher
    rw [halves_joined]
    exact (congrArg joined hrounds).trans (joined_halves b)
  · have hrounds := foldl_reverse_undoes (round_unround k) [7, 6, 5, 4, 3, 2, 1, 0] (halves b)
    unfold decipher encipher
    rw [halves_joined]
    exact (congrArg joined hrounds).trans (joined_halves b)

/-- Both comparisons of the known-answer test agree (R44). -/
theorem knownAnswer_true : knownAnswer = true := by decide +kernel

/-! ### The zone search (R27) -/

/-- The zone search passes over an entry for a meter: it is UNUSED, or it does not match under its mask. -/
def passedBy (meter : Pattern) (z : Zone) : Prop := z.action = .unused ∨ meter &&& z.mask ≠ z.value &&& z.mask

/-- The outcome of the zone search at the entry that decides it, by the entry's action. -/
def verdict (zone : Nat) (a : ZoneAction) : ZoneFound := if a = .accept then .zone zone else .embargo

/-- An entry passed over leaves the search to the entries after it. -/
theorem searchFrom_passedBy {meter : Pattern} {z : Zone} (h : passedBy meter z) (i : Nat) (zs : List Zone) :
    searchFrom meter i (z :: zs) = searchFrom meter (i + 1) zs := by
  obtain hunused | hdiffers := h
  · simp only [searchFrom, if_pos hunused]
  · simp only [searchFrom, if_neg hdiffers, ite_self]

/-- An entry not passed over decides the search. -/
theorem searchFrom_decides {meter : Pattern} {z : Zone} (h : ¬ passedBy meter z) (i : Nat) (zs : List Zone) :
    searchFrom meter i (z :: zs) = verdict i z.action := by
  obtain ⟨hused, hmatches⟩ := not_or.mp h
  simp only [searchFrom, verdict, if_neg hused, if_pos (Classical.not_not.mp hmatches)]

/-- Entry `n` of a table is the first that the search does not pass over. -/
def firstMatch (meter : Pattern) (entry : Nat → Zone) (n : Nat) : Prop :=
  ¬ passedBy meter (entry n) ∧ ∀ y, y < n → passedBy meter (entry y)

theorem firstMatch_unique {meter : Pattern} {entry : Nat → Zone} {n m : Nat} (hn : firstMatch meter entry n)
    (hm : firstMatch meter entry m) : n = m := by
  obtain h | h | h := Nat.lt_trichotomy n m
  · exact absurd (hm.2 n h) hn.1
  · exact h
  · exact absurd (hn.2 m h) hm.1

/-- An entry passed over before a table that begins with it puts the table's first match one place on. -/
theorem firstMatch_cons {meter : Pattern} {z : Zone} {zs : List Zone} {n : Nat} (hz : passedBy meter z)
    (h : firstMatch meter (zs.getD · default) n) : firstMatch meter ((z :: zs).getD · default) (n + 1) := by
  refine ⟨h.1, fun y hy => ?_⟩
  cases y with
  | zero => exact hz
  | succ y => exact h.2 y (Nat.lt_of_succ_lt_succ hy)

/-- All that the search over a list of entries comes to: every entry is passed over, or the first that is not decides. -/
theorem searchFrom_cases (meter : Pattern) (zs : List Zone) (i : Nat) :
    (∀ z ∈ zs, passedBy meter z) ∧ searchFrom meter i zs = .none ∨
      ∃ n, n < zs.length ∧ firstMatch meter (zs.getD · default) n ∧
        searchFrom meter i zs = verdict (i + n) (zs.getD n default).action := by
  induction zs generalizing i with
  | nil => exact .inl ⟨by simp, rfl⟩
  | cons z zs ih =>
    by_cases hz : passedBy meter z
    · rw [searchFrom_passedBy hz]
      obtain ⟨hall, hs⟩ | ⟨n, hn, hfirst, hs⟩ := ih (i + 1)
      · exact .inl ⟨List.forall_mem_cons.mpr ⟨hz, hall⟩, hs⟩
      · refine .inr ⟨n + 1, Nat.succ_lt_succ hn, firstMatch_cons hz hfirst, ?_⟩
        rw [hs, Nat.add_right_comm, Nat.add_assoc]
        rfl
    · exact .inr ⟨0, Nat.succ_pos _, ⟨hz, by simp⟩, searchFrom_decides hz i zs⟩

/-- All that the zone search comes to: every zone is passed over, or the first that is not decides. -/
theorem zoneSearch_cases (s : State) (meter : Nat) :
    (∀ y, y < 16 → passedBy (BitVec.ofNat 40 meter) (s.zoneAt y)) ∧ s.zoneSearch meter = .none ∨
      ∃ n, n < 16 ∧ firstMatch (BitVec.ofNat 40 meter) s.zoneAt n ∧ s.zoneSearch meter = verdict n (s.zoneAt n).action := by
  have hentry : (s.zks.zones.toList.getD · default) = s.zoneAt := by
    funext y
    simp [State.zoneAt, pick, List.getD]
  obtain ⟨hall, hs⟩ | ⟨n, hn, hfirst, hs⟩ := searchFrom_cases (BitVec.ofNat 40 meter) s.zks.zones.toList 0
  · refine .inl ⟨fun y hy => hall _ ?_, hs⟩
    have hy' : y < s.zks.zones.toList.length := by simpa using hy
    rw [← congrFun hentry y]
    simp [List.getD, hy]
  · rw [hentry] at hfirst
    refine .inr ⟨n, by simpa using hn, hfirst, hs.trans ?_⟩
    rw [Nat.zero_add, ← congrFun hentry n]

/-- A first match decides the search. -/
theorem zoneSearch_of_firstMatch {s : State} {meter n : Nat} (hn : n < 16) (h : firstMatch (BitVec.ofNat 40 meter) s.zoneAt n) :
    s.zoneSearch meter = verdict n (s.zoneAt n).action := by
  obtain ⟨hall, _⟩ | ⟨m, _, hfirst, hs⟩ := zoneSearch_cases s meter
  · exact absurd (hall n hn) h.1
  · rw [hs, firstMatch_unique h hfirst]

/-- A search that does not end at NO_ZONE ended at a first match. -/
theorem firstMatch_of_zoneSearch {s : State} {meter : Nat} (h : s.zoneSearch meter ≠ .none) :
    ∃ n, n < 16 ∧ firstMatch (BitVec.ofNat 40 meter) s.zoneAt n ∧ s.zoneSearch meter = verdict n (s.zoneAt n).action := by
  obtain ⟨_, hs⟩ | hfound := zoneSearch_cases s meter
  · exact absurd hs h
  · exact hfound

theorem firstMatch_iff {meter : Pattern} {entry : Nat → Zone} {n : Nat} :
    firstMatch meter entry n ↔
      (entry n).action ≠ .unused ∧ meter &&& (entry n).mask = (entry n).value &&& (entry n).mask ∧
        ∀ y, y < n → (entry y).action = .unused ∨ meter &&& (entry y).mask ≠ (entry y).value &&& (entry y).mask := by
  simp [firstMatch, passedBy, and_assoc]

theorem verdict_eq_zone {n z : Nat} {a : ZoneAction} : verdict n a = .zone z ↔ n = z ∧ a = .accept := by
  cases a <;> simp [verdict]

theorem verdict_eq_embargo {n : Nat} {a : ZoneAction} : verdict n a = .embargo ↔ a ≠ .accept := by
  cases a <;> simp [verdict]

theorem verdict_ne_none (n : Nat) (a : ZoneAction) : verdict n a ≠ .none := by
  cases a <;> simp [verdict]

/-- Settles O23: a first match is the only one, and the search ends at its verdict. -/
theorem zoneSearchFirstMatch : Obligations.ZoneSearchFirstMatch := by
  intro s meter
  refine ⟨fun z => ⟨fun h => ?_, fun ⟨hz, ha, hm, hb⟩ => ?_⟩, ⟨fun h => ?_, fun ⟨z, hz, ha, hm, hb⟩ => ?_⟩,
    ⟨fun h => ?_, fun h => ?_⟩⟩
  · obtain ⟨n, hn, hfirst, hs⟩ := firstMatch_of_zoneSearch (s := s) (meter := meter) (by simp [h])
    obtain ⟨rfl, ha⟩ := verdict_eq_zone.mp (hs.symm.trans h)
    exact ⟨hn, ha, (firstMatch_iff.mp hfirst).2⟩
  · rw [zoneSearch_of_firstMatch hz (firstMatch_iff.mpr ⟨by simp [ha], hm, hb⟩)]
    exact verdict_eq_zone.mpr ⟨rfl, ha⟩
  · obtain ⟨n, hn, hfirst, hs⟩ := firstMatch_of_zoneSearch (s := s) (meter := meter) (by simp [h])
    obtain ⟨hused, hrest⟩ := firstMatch_iff.mp hfirst
    have haccept := verdict_eq_embargo.mp (hs.symm.trans h)
    have hembargo : (s.zoneAt n).action = .embargo := by
      cases ha : (s.zoneAt n).action with
      | unused => exact absurd ha hused
      | accept => exact absurd ha haccept
      | embargo => rfl
    exact ⟨n, hn, hembargo, hrest⟩
  · rw [zoneSearch_of_firstMatch hz (firstMatch_iff.mpr ⟨by simp [ha], hm, hb⟩)]
    exact verdict_eq_embargo.mpr (by simp [ha])
  · obtain ⟨hall, _⟩ | ⟨n, _, _, hs⟩ := zoneSearch_cases s meter
    · exact hall
    · exact absurd (hs.symm.trans h) (verdict_ne_none _ _)
  · obtain ⟨_, hs⟩ | ⟨n, hn, hfirst, _⟩ := zoneSearch_cases s meter
    · exact hs
    · exact absurd (h n hn) hfirst.1

end Sys2Proof.Machine.KeysAndLock

/-! ## ZONE SET, KEY ROLL, KEY LOAD and a slot that fails its check: O24 to O27 -/

namespace Sys2Proof.Machine.KeysAndLock

open Sys2Proof Sys2Proof.Machine

/-! ### A request's one retained write (R154) -/

theorem writeOr_made {s u : State} (made : State → Served) (h : drawWrite s = (false, u)) : writeOr s made = made u :=
  retained_made _ _ h

theorem writeOr_failed {s u : State} (made : State → Served) (h : drawWrite s = (true, u)) :
    writeOr s made = refuse .storeFault (raise .storeWrite u) :=
  retained_failed _ _ h

theorem drawWrite_frame {s u : State} {b : Bool} (h : drawWrite s = (b, u)) : u = s.withEnv u.env := by
  rw [drawWrite_eq] at h
  obtain ⟨_, rfl⟩ := Prod.mk.inj h
  rfl

theorem drawWrite_zoneAt {s u : State} {b : Bool} (h : drawWrite s = (b, u)) (zone : Nat) : u.zoneAt zone = s.zoneAt zone := by
  rw [drawWrite_frame h]
  rfl

/-! ### Commands taken, by what their own work comes to -/

theorem exec_zoneSet_answered {lane tag zone : Nat} {f : ZoneFields} {s g t : State} {a : Answer}
    (h : taken (.zoneSet lane tag zone f) s = some g) (hb : zoneSetBody zone f g = answered a t) :
    exec (.zoneSet lane tag zone f) s = .next (finish a t) :=
  serve_answered h hb

theorem exec_keyRoll_answered {lane tag zone slot : Nat} {s g t : State} {a : Answer}
    (h : taken (.keyRoll lane tag zone slot) s = some g) (hb : keyRollBody zone slot g = answered a t) :
    exec (.keyRoll lane tag zone slot) s = .next (finish a t) :=
  serve_answered h hb

theorem exec_keyLoad_answered {lane tag slot key check : Nat} {s g t : State} {a : Answer}
    (h : taken (.keyLoad lane tag slot key check) s = some g) (hb : keyLoadBody slot key check g = answered a t) :
    exec (.keyLoad lane tag slot key check) s = .next (finish a t) :=
  serve_answered h hb

/-! ### ZONE SET (R29, R30) -/

theorem ofCode_code (a : ZoneAction) : ZoneAction.ofCode a.code = some a := by cases a <;> rfl

theorem code_eq_zero {a : ZoneAction} : a.code = 0 ↔ a = .unused := by cases a <;> simp [ZoneAction.code]

/-- What holds of the keys part holds of the current reference where one is given, and of the previous where two are. -/
theorem forall_zoneGiven {f : ZoneFields} {P : KeyRef → Prop} :
    (∀ k ∈ zoneGiven f, P k) ↔
      (1 ≤ f.keys → P ⟨f.currentRev, f.currentSlot⟩) ∧ (2 ≤ f.keys → P ⟨f.previousRev, f.previousSlot⟩) := by
  by_cases h1 : 1 ≤ f.keys <;> by_cases h2 : 2 ≤ f.keys <;> simp [zoneGiven, h1, h2]

theorem zoneInRange_iff {zone : Nat} {f : ZoneFields} :
    zoneInRange zone f = true ↔
      zone ≤ 15 ∧ f.group ≤ 15 ∧ (ZoneAction.ofCode f.action).isSome = true ∧ f.keys ≤ 2 ∧
        (∀ k ∈ zoneGiven f, k.rev ≤ 15 ∧ 2 ≤ k.slot ∧ k.slot ≤ 15) ∧
        (2 ≤ f.keys → f.previousRev ≠ f.currentRev ∧ f.previousSlot ≠ f.currentSlot) := by
  simp [zoneInRange, KeyRef.valid, and_assoc, Decidable.imp_iff_not_or]

theorem keysMisplaced_eq_false {f : ZoneFields} {z : Zone} {a : ZoneAction} (ha : a.code = f.action)
    (hgiven : 1 ≤ f.keys → a ≠ .unused) (hkept : f.keys = 0 → a ≠ .unused → z.action ≠ .unused) : keysMisplaced f z = false := by
  by_cases hu : a = .unused
  · have hk : f.keys = 0 := Nat.eq_zero_of_not_pos fun hpos => hgiven hpos hu
    simp [keysMisplaced, ← ha, hu, ZoneAction.code, hk]
  · have h0 : f.action ≠ 0 := fun h => hu (code_eq_zero.mp (ha.trans h))
    simpa [keysMisplaced, h0] using fun hk => hkept hk hu

theorem namedElsewhere_eq_false {s : State} {zone slot : Nat} :
    s.namedElsewhere zone slot = false ↔ ∀ z, z < 16 → z ≠ zone → (s.zoneAt z).names slot = false := by
  simp [State.namedElsewhere]

/-- The entry a ZONE SET of a good action writes. -/
theorem zoneWritten_eq {f : ZoneFields} {a : ZoneAction} (z : Zone) (ha : a.code = f.action) (hk : f.keys ≤ 2) :
    zoneWritten f z = ⟨a, BitVec.ofNat 40 f.value, BitVec.ofNat 40 f.mask, f.group,
      if a = .unused then none else if f.keys = 0 then z.current else some ⟨f.currentRev, f.currentSlot⟩,
      if a = .unused then none else if f.keys = 0 then z.previous
        else if f.keys = 1 then none else some ⟨f.previousRev, f.previousSlot⟩⟩ := by
  have hof : (ZoneAction.ofCode f.action).getD .unused = a := by rw [← ha, ofCode_code, Option.getD_some]
  obtain hk | hk | hk : f.keys = 0 ∨ f.keys = 1 ∨ f.keys = 2 := by omega
  all_goals simp [zoneWritten, hof, zoneGiven, hk]

/-- A ZONE SET that passes its checks, its write made (R30). -/
theorem zoneSetBody_written {zone : Nat} {f : ZoneFields} {s u : State} (hlock : s.fmn.configLock = false)
    (hrange : zoneInRange zone f = true) (hkeys : keysMisplaced f (s.zoneAt zone) = false)
    (hslots : ∀ k ∈ zoneGiven f, s.namedElsewhere zone k.slot = false ∧ (s.slotAt k.slot).isLoaded = true)
    (hw : drawWrite s = (false, u)) :
    zoneSetBody zone f s = answered (Answer.ok (zonePayload (zoneWritten f (s.zoneAt zone))))
      (u.withZks { u.zks with zones := put u.zks.zones zone (zoneWritten f (s.zoneAt zone)) }) := by
  have hfree : ((zoneGiven f).any fun k => s.namedElsewhere zone k.slot) = false := by
    rw [List.any_eq_false]
    exact fun k hk => by simp [(hslots k hk).1]
  have hloaded : s.unloaded ((zoneGiven f).map (·.slot)) = none := by
    simpa [State.unloaded] using fun k hk => (hslots k hk).2
  simp [zoneSetBody, hlock, hrange, hkeys, hfree, hloaded, writeOr_made _ hw]

/-- Settles O24: the statement's conditions are the checks of ZONE SET, met one by one, and its write is made. -/
theorem zoneSetWrites : Obligations.ZoneSetWrites := by
  intro lane tag zone f s g u a new ht hlock hzone hgroup ha hk hcurrent hprevious hkept hw hnew
  have hprevious' := fun h : 2 ≤ f.keys => hprevious (Nat.le_antisymm hk h)
  have hrange : zoneInRange zone f = true := by
    refine zoneInRange_iff.mpr ⟨hzone, hgroup, by rw [← ha, ofCode_code]; rfl, hk, forall_zoneGiven.mpr ⟨fun h => ?_, fun h => ?_⟩,
      fun h => ?_⟩
    · obtain ⟨_, hrev, hlow, hhigh, _⟩ := hcurrent h
      exact ⟨hrev, hlow, hhigh⟩
    · obtain ⟨hrev, hlow, hhigh, _⟩ := hprevious' h
      exact ⟨hrev, hlow, hhigh⟩
    · obtain ⟨_, _, _, hrevs, hslots, _⟩ := hprevious' h
      exact ⟨hrevs, hslots⟩
  have hslots : ∀ k ∈ zoneGiven f, g.namedElsewhere zone k.slot = false ∧ (g.slotAt k.slot).isLoaded = true := by
    refine forall_zoneGiven.mpr ⟨fun h => ?_, fun h => ?_⟩
    · obtain ⟨_, _, _, _, hloaded, hnamed⟩ := hcurrent h
      exact ⟨namedElsewhere_eq_false.mpr hnamed, hloaded⟩
    · obtain ⟨_, _, _, _, _, hloaded, hnamed⟩ := hprevious' h
      exact ⟨namedElsewhere_eq_false.mpr hnamed, hloaded⟩
  have hkeys := keysMisplaced_eq_false (z := g.zoneAt zone) ha (fun h => (hcurrent h).1) hkept
  have hbody := zoneSetBody_written hlock hrange hkeys hslots hw
  rw [zoneWritten_eq _ ha hk] at hbody
  subst hnew
  rw [← ha]
  exact exec_zoneSet_answered ht hbody

/-! ### KEY ROLL (R31) -/

theorem inUse_unused {z : Zone} (h : z.action = .unused) : z.inUse = none := by simp [Zone.inUse, h]

theorem inUse_current {z : Zone} {c : KeyRef} (h : z.action ≠ .unused) (hc : z.current = some c) : z.inUse = some c := by
  simp [Zone.inUse, h, hc]

/-- KEY ROLL of a zone in use, past the ranges: its slot's two checks, then the write. -/
theorem keyRollBody_inUse {zone slot : Nat} {s : State} {c : KeyRef} (hlock : s.fmn.configLock = false)
    (hrange : ¬ (15 < zone ∨ slot < 2 ∨ 15 < slot)) (hc : (s.zoneAt zone).inUse = some c) :
    keyRollBody zone slot s =
      if s.slotInUse slot then refuse .slotInUse s
      else if !(s.slotAt slot).isLoaded then answered (Answer.keyUnavailable .notLoaded slot) s
      else writeOr s fun t =>
        answered (Answer.ok (fieldBytes [(1, (c.rev + 1) % 16), (1, c.rev), (1, orFF ((t.zoneAt zone).previous.map (·.slot)))]))
          (t.withZks { t.zks with zones := put t.zks.zones zone ((t.zoneAt zone).rolledTo c slot) }) := by
  simp only [keyRollBody, hlock, hrange, hc, Bool.false_eq_true, if_false]

/-- Settles O25: each check of KEY ROLL in turn, then its write. -/
theorem keyRollAdvances : Obligations.KeyRollAdvances := by
  intro lane tag zone slot s g u ht hlock
  refine ⟨fun hrange => exec_keyRoll_answered ht ?_, fun hzone hlow hhigh => ⟨fun hunused => exec_keyRoll_answered ht ?_, ?_⟩⟩
  · simp only [keyRollBody, hlock, hrange, Bool.false_eq_true, if_false, if_true]
    rfl
  · have hrange : ¬ (15 < zone ∨ slot < 2 ∨ 15 < slot) := by omega
    simp only [keyRollBody, hlock, hrange, inUse_unused hunused, Bool.false_eq_true, if_false]
    rfl
  · intro c hused hc
    have hbody := keyRollBody_inUse hlock (by omega) (inUse_current hused hc) (zone := zone) (slot := slot)
    refine ⟨fun hslot => exec_keyRoll_answered ht ?_, fun hslot hloaded => exec_keyRoll_answered ht ?_,
      fun hslot hloaded hw => exec_keyRoll_answered ht ?_⟩
    · rw [hbody, if_pos hslot]
      rfl
    · simp only [hbody, hslot, hloaded, Bool.false_eq_true, Bool.not_false, if_false, if_true]
      rfl
    · simp only [hbody, hslot, hloaded, Bool.false_eq_true, Bool.not_true, if_false, writeOr_made _ hw, drawWrite_zoneAt hw]
      rfl

/-! ### KEY LOAD (R34, R35) -/

theorem loadBlocked_iff {s : State} {slot : Nat} :
    s.loadBlocked slot = true ↔ slot = 0 ∧ (s.slotAt 0).isLoaded = true ∨ 2 ≤ slot ∧ s.slotInUse slot = true := by
  by_cases h : slot = 0 <;> simp [State.loadBlocked, h]

/-- KEY LOAD past the checks of its slot: the cipher's state, then the load. -/
theorem keyLoadBody_open {slot key check : Nat} {s : State} (hlock : s.fmn.configLock = false) (hslot : slot ≤ 15)
    (hopen : s.loadBlocked slot = false) :
    keyLoadBody slot key check s =
      if !s.tcu.passed then refuse .cipherFault s
      else (loadedKey slot (BitVec.ofNat 64 key) s).served fun k t =>
        (plainUse t).served fun _ u => if (checkValue k).toNat = check then storeKey slot k u else refuse .badAuthenticator u := by
  simp only [keyLoadBody, hlock, Nat.not_lt.mpr hslot, hopen, Bool.false_eq_true, if_false]

/-- The key unwrapped under slot 0, checked first: two uses (R35, R36). -/
theorem loadedKey_wrapped {s : State} {slot : Nat} {base field : Block} (h : slot ≠ 0) (hbase : s.sound 0 base) (hc : s.calm 2) :
    loadedKey slot field s = .ok (decipher base field) (s.used 2) := by
  simp [loadedKey, h, checkedKey_sound hbase hc, Res.andThen]

/-- KEY LOAD with a key found after `n` uses: one use more for its check value, which decides (R35). -/
theorem keyLoadBody_keyed {slot key check n : Nat} {s : State} {k : Block} (hlock : s.fmn.configLock = false) (hslot : slot ≤ 15)
    (hopen : s.loadBlocked slot = false) (hkey : loadedKey slot (BitVec.ofNat 64 key) s = .ok k (s.used n)) (hc : s.calm (n + 1)) :
    keyLoadBody slot key check s =
      if (checkValue k).toNat = check then storeKey slot k (s.used (n + 1)) else refuse .badAuthenticator (s.used (n + 1)) := by
  have hpassed : s.tcu.passed = true := hc.1
  simp only [keyLoadBody_open hlock hslot hopen, hpassed, hkey, Res.served, plainUse_calm (State.calm_used hc), State.used_used,
    Bool.not_true, Bool.false_eq_true, if_false]

theorem storeKey_made {slot : Nat} {k : Block} {s u : State} (hz : s.fmn.zeroisePending = false) (hw : drawWrite s = (false, u)) :
    storeKey slot k s = answered (Answer.ok (fieldBytes [(1, slot), (3, (checkValue k).toNat)]))
      (u.withZks { u.zks with
        slots := put u.zks.slots slot (.loaded k (checkValue k)), erasing := u.zks.erasing.filter (· != slot) }) := by
  simp only [storeKey, hz, Bool.false_eq_true, if_false, writeOr_made _ hw]

theorem storeKey_failed {slot : Nat} {k : Block} {s u : State} (hz : s.fmn.zeroisePending = false) (hw : drawWrite s = (true, u)) :
    storeKey slot k s = refuse .storeFault (raise .storeWrite u) := by
  simp only [storeKey, hz, Bool.false_eq_true, if_false, writeOr_failed _ hw]

/-- Settles O26: slot 0's key stands in clear and any other's is unwrapped; the check value then decides, and the write. -/
theorem keyLoadStores : Obligations.KeyLoadStores := by
  intro lane tag slot key check n s g u k ht hlock
  refine ⟨fun hrange => ?_, fun hslot hblocked => ?_, fun hslot hopen hfailed => ?_, fun hz hslot hcase hc => ?_⟩
  · refine exec_keyLoad_answered ht ?_
    simp only [keyLoadBody, hlock, hrange, Bool.false_eq_true, if_false, if_true]
    rfl
  · refine exec_keyLoad_answered ht ?_
    simp only [keyLoadBody, hlock, Nat.not_lt.mpr hslot, loadBlocked_iff.mpr hblocked, Bool.false_eq_true, if_false, if_true]
    rfl
  · have hopen' : g.loadBlocked slot = false := Bool.eq_false_iff.mpr (mt loadBlocked_iff.mp hopen)
    refine exec_keyLoad_answered ht ?_
    simp only [keyLoadBody_open hlock hslot hopen', hfailed, Bool.not_false, if_true]
    rfl
  · have hbody : keyLoadBody slot key check g =
        if (checkValue k).toNat = check then storeKey slot k (g.used n) else refuse .badAuthenticator (g.used n) := by
      obtain ⟨rfl, hempty, rfl, rfl⟩ | ⟨h0, hfree, rfl, base, hbase, rfl⟩ := hcase
      · refine keyLoadBody_keyed hlock hslot ?_ ?_ hc
        · simp [State.loadBlocked, hempty]
        · rw [State.used_zero]
          rfl
      · refine keyLoadBody_keyed hlock hslot ?_ (loadedKey_wrapped h0 hbase (State.calm_less hc (by omega))) hc
        simpa [State.loadBlocked, h0] using hfree
    have hz' : (g.used n).fmn.zeroisePending = false := hz
    refine ⟨fun hdiffers => exec_keyLoad_answered ht ?_, fun hagrees hw => exec_keyLoad_answered ht ?_,
      fun hagrees hw => exec_keyLoad_answered ht ?_⟩
    · rw [hbody, if_neg hdiffers]
      rfl
    · rw [hbody, if_pos hagrees, storeKey_failed hz' hw]
      rfl
    · rw [hbody, if_pos hagrees, storeKey_made hz' hw, hagrees]

/-! ### A slot that fails its check (R36) -/

/-- One use of a loaded slot's key, whether or not it agrees with its check value (R32). -/
theorem slotUse_loaded {s : State} {slot : Nat} {k : Block} {c : CheckValue} (hk : s.slotAt slot = .loaded k c) (h : s.calm 1) :
    slotUse slot s = .ok (k, c) (s.used 1) := by
  simp [slotUse, midEvent_none h.2.2, hk, countUse_calm h, Res.andThen]

/-- A key that does not agree with its check value is refused, and its slot erased (R36). -/
theorem checkSlot_differs {s : State} {slot : Nat} {k : Block} {c : CheckValue} (hk : s.slotAt slot = .loaded k c)
    (hc : checkValue k ≠ c) (h : s.calm 1) :
    checkSlot slot s = .no (Answer.keyUnavailable .checkFailed slot) (eraseSlot slot (s.used 1)) := by
  simp [checkSlot, slotUse_loaded hk h, Res.andThen, hc]

theorem eraseSlot_made {s u : State} (slot : Nat) (h : drawWrite s = (false, u)) :
    eraseSlot slot s = raise .keyCheck (u.withZks { u.zks with slots := put u.zks.slots slot .erased }) := by
  simp [eraseSlot, h]

theorem eraseSlot_failed {s u : State} (slot : Nat) (h : drawWrite s = (true, u)) :
    eraseSlot slot s = raiseBeside .keyCheck (u.withZks { u.zks with erasing := slot :: u.zks.erasing }) := by
  simp [eraseSlot, h]

/-- Two faults of one failure arrive one after the other, in one order or the other (R155). -/
theorem raiseBeside_order (k : FaultKind) (s : State) :
    ∃ a b, (a = k ∧ b = .storeWrite ∨ a = .storeWrite ∧ b = k) ∧
      raiseBeside k s = raise b (raise a (s.withFreeReads (s.freeReads + 1))) := by
  by_cases h : Config.storeWriteFirst s.freeReads
  · exact ⟨.storeWrite, k, .inr ⟨rfl, rfl⟩, by simp [raiseBeside, h]⟩
  · exact ⟨k, .storeWrite, .inl ⟨rfl, rfl⟩, by simp [raiseBeside, h]⟩

/-- A slot whose erasing write is owed reads ERASED (R36). -/
theorem slotAt_erasing {s : State} {slot : Nat} (h : slot ∈ s.zks.erasing) : s.slotAt slot = .erased := by
  simp [State.slotAt, h]

/-- Settles O27: the check's write, and its retries, each made or failed. -/
theorem failedCheckErases : Obligations.FailedCheckErases := by
  intro slot s u
  refine ⟨fun k c hk hdiffers hcalm => ⟨fun hw => ?_, fun hw => ?_⟩, fun hsupply =>
    ⟨fun howed hw => ?_, fun howed hw => ?_, fun hnone => ?_⟩⟩
  · rw [checkSlot_differs hk hdiffers hcalm, eraseSlot_made slot hw]
    rfl
  · obtain ⟨a, b, horder, hraised⟩ := raiseBeside_order .keyCheck (u.withZks { u.zks with erasing := slot :: u.zks.erasing })
    refine ⟨_, a, b, checkSlot_differs hk hdiffers hcalm, ?_, horder, (eraseSlot_failed slot hw).trans hraised⟩
    rw [eraseSlot_failed slot hw, hraised]
    exact slotAt_erasing (List.mem_cons_self ..)
  · refine (powered_on _ hsupply).trans ?_
    rw [if_pos howed, retained_made _ _ hw]
  · refine (powered_on _ hsupply).trans ?_
    rw [if_pos howed, retained_failed _ _ hw]
    rfl
  · refine (powered_on _ hsupply).trans ?_
    rw [if_neg (Bool.eq_false_iff.mp hnone)]

end Sys2Proof.Machine.KeysAndLock

/-! ## ACK FAULT and the configuration lock: O49 and O51 -/

namespace Sys2Proof.Machine.KeysAndLock

open Sys2Proof Sys2Proof.Machine

/-! ### ACK FAULT (R157) -/

theorem exec_ackFault_answered {lane tag : Nat} {s g t : State} {a : Answer} (h : taken (.ackFault lane tag) s = some g)
    (hb : ackFaultBody g = answered a t) : exec (.ackFault lane tag) s = .next (finish a t) :=
  serve_answered h hb

/-- A self-test that nothing upsets passes (R44). -/
theorem selfTest_sound {s : State} (h : s.env.testFails = []) : selfTest s = (true, s.withTcu ⟨true, 0⟩) := by
  simp [selfTest, drawTest, h, knownAnswer_true]

/-- A self-test that is upset fails, and raises CIPHER_TEST (R45). -/
theorem selfTest_upset {s : State} {more : List Bool} (h : s.env.testFails = true :: more) :
    selfTest s = (false, raise .cipherTest ((s.withEnv { s.env with testFails := more }).withTcu ⟨false, 0⟩)) := by
  simp [selfTest, drawTest, h]

theorem retest_passed {s : State} (h : s.tcu.passed = true) : retest s = (0, s) := by simp [retest, h]

theorem retest_sound {s : State} (h : s.tcu.passed = false) (ht : (midEvent s).env.testFails = []) :
    retest s = (1, (midEvent s).withTcu ⟨true, 0⟩) := by
  simp [retest, h, selfTest_sound ht]

theorem retest_upset {s : State} {more : List Bool} (h : s.tcu.passed = false) (ht : (midEvent s).env.testFails = true :: more) :
    retest s = (2, raise .cipherTest
      (((midEvent s).withEnv { (midEvent s).env with testFails := more }).withTcu ⟨false, 0⟩)) := by
  simp [retest, h, selfTest_upset ht]

/-- ACK FAULT of a stack with entries: its reply by what the retest of the popped state comes to. -/
theorem ackFaultBody_retest {s t : State} {e : HoldEntry} {rest : List HoldEntry} {result : Nat} (h : s.fmn.stack = e :: rest)
    (hr : retest (popHold e rest s) = (result, t)) :
    ackFaultBody s = answered
      (Answer.ok (fieldBytes [(1, e.kind.code), (1, e.level), (1, t.fmn.hold), (1, t.fmn.stack.length), (1, result),
        (1, bit t.fmn.locked)])) t := by
  simp [ackFaultBody, h, hr]

/-- One fault due at the first point inside a request is taken there. -/
theorem midEvent_fault {s : State} {k : FaultKind} (h : s.env.mid = [(0, .fault k)]) :
    midEvent s = (raise k s).withEnv { s.env with mid := [] } := by
  rw [midEvent, h]
  rfl

/-- Settles O49: the pop, then the retest by the cipher's state and the test's outcome. -/
theorem ackFaultPops : Obligations.AckFaultPops := by
  intro lane tag s g ht
  refine ⟨fun hempty => exec_ackFault_answered ht (by simp only [ackFaultBody, hempty]; rfl), ?_⟩
  rintro e rest hstack p m rfl rfl
  refine ⟨fun hpassed => ?_, fun hfailed => ⟨fun htest => ?_, fun more htest t hraised => ?_⟩, fun hnone => midEvent_none hnone,
    fun k hfault => midEvent_fault hfault⟩
  · exact exec_ackFault_answered ht (ackFaultBody_retest hstack (retest_passed hpassed))
  · exact exec_ackFault_answered ht (ackFaultBody_retest hstack (retest_sound hfailed htest))
  · rw [hraised]
    exact exec_ackFault_answered ht (ackFaultBody_retest hstack (retest_upset hfailed htest))

/-! ### The configuration requests (R159) -/

/-- The own work of a request that the configuration lock refuses or whose work is one write. -/
def configWork : Instr → State → Served
  | .loadPlan _ _ index clear f => loadPlanBody index clear f
  | .armPlans _ _ disarm month => armPlansBody disarm month
  | .zoneSet _ _ zone f => zoneSetBody zone f
  | .keyLoad _ _ slot key check => keyLoadBody slot key check
  | .keyRoll _ _ zone slot => keyRollBody zone slot
  | .setLimits _ _ ceiling cap lease => setLimitsBody ceiling cap lease
  | .setCountersign _ _ period threshold => setCountersignBody period threshold
  | .laneLevel _ _ counter level => laneLevelBody counter level
  | .setBoundary _ _ clear minute => setBoundaryBody clear minute
  | .lock _ _ key => lockBody key
  | .unlock _ _ key => unlockBody key
  | _ => refuse .notPermitted

/-- Such a request is served by its own work. -/
theorem exec_configWork {i : Instr} (h : lockable i = true ∨ oneWrite i = true) (s : State) : exec i s = serve i s (configWork i) := by
  cases i with
  | loadPlan | armPlans | zoneSet | keyLoad | keyRoll | setLimits | setCountersign | laneLevel | setBoundary | lock | unlock => rfl
  | _ => simp [lockable, oneWrite] at h

theorem exec_configWork_answered {i : Instr} {s g t : State} {a : Answer} (h : lockable i = true ∨ oneWrite i = true)
    (ht : taken i s = some g) (hb : configWork i g = answered a t) : exec i s = .next (finish a t) :=
  (exec_configWork h s).trans (serve_answered ht hb)

/-- The lock is the first thing each of the eight configuration requests checks. -/
theorem configWork_locked {i : Instr} {s : State} (h : lockable i = true) (hlock : s.fmn.configLock = true) :
    configWork i s = refuse .configLocked s := by
  cases i with
  | loadPlan | armPlans | zoneSet | keyLoad | keyRoll | setLimits | setCountersign | laneLevel => exact if_pos hlock
  | _ => cases h

/-! ### A request's one write, failing (R154) -/

/-- Work that, when its write fails, has either made none and left the state `s`, or is STORE_FAULT with a STORE_WRITE fault on the
state `u` with the failure drawn. -/
def FailsClean (s u : State) (r : Served) : Prop :=
  (∃ a, r = answered a s) ∨ r = refuse .storeFault (raise .storeWrite u)

theorem FailsClean.answered {s u : State} (a : Answer) : FailsClean s u (answered a s) := .inl ⟨a, rfl⟩

theorem FailsClean.refuse {s u : State} (st : Status) : FailsClean s u (refuse st s) := .inl ⟨Answer.bare st, rfl⟩

theorem FailsClean.retained {s u : State} (made : State → Served) (h : drawWrite s = (true, u)) :
    FailsClean s u (retained s made (Machine.refuse .storeFault)) :=
  .inr (retained_failed _ _ h)

theorem FailsClean.ite {s u : State} {p : Prop} [Decidable p] {x y : Served} (hx : FailsClean s u x) (hy : FailsClean s u y) :
    FailsClean s u (if p then x else y) := by
  split
  · exact hx
  · exact hy

theorem armWith_failsClean {s u : State} (month : Option Nat) (h : drawWrite s = (true, u)) : FailsClean s u (armWith month s) :=
  .retained _ h

theorem boundaryWith_failsClean {s u : State} (b : Option Nat) (h : drawWrite s = (true, u)) : FailsClean s u (boundaryWith b s) :=
  .retained _ h

theorem zoneSetBody_failsClean {zone : Nat} {f : ZoneFields} {s u : State} (h : drawWrite s = (true, u)) :
    FailsClean s u (zoneSetBody zone f s) := by
  refine .ite (.refuse _) (.ite (.refuse _) (.ite (.refuse _) (.ite (.refuse _) ?_)))
  split
  · exact .answered _
  · exact .retained _ h

theorem keyRollBody_failsClean {zone slot : Nat} {s u : State} (h : drawWrite s = (true, u)) :
    FailsClean s u (keyRollBody zone slot s) := by
  refine .ite (.refuse _) (.ite (.refuse _) ?_)
  split
  · exact .refuse _
  · exact .ite (.refuse _) (.ite (.answered _) (.retained _ h))

/-- The work of a request of one write, its checks in order and then the write. -/
theorem configWork_failsClean {i : Instr} {s u : State} (hi : oneWrite i = true) (h : drawWrite s = (true, u)) :
    FailsClean s u (configWork i s) := by
  cases i with
  | armPlans =>
    exact .ite (.refuse _) (.ite (.refuse _) (.ite (armWith_failsClean _ h) (.ite (.answered _) (armWith_failsClean _ h))))
  | zoneSet => exact zoneSetBody_failsClean h
  | keyRoll => exact keyRollBody_failsClean h
  | setLimits => exact .ite (.refuse _) (.ite (.refuse _) (.ite (.refuse _) (.retained _ h)))
  | loadPlan | setCountersign | laneLevel | lock => exact .ite (.refuse _) (.ite (.refuse _) (.retained _ h))
  | setBoundary =>
    exact .ite (.refuse _) (.ite (boundaryWith_failsClean _ h) (.ite (.answered _) (boundaryWith_failsClean _ h)))
  | unlock => exact .ite (.answered _) (.ite (.refuse _) (.ite (.refuse _) (.retained _ h)))
  | _ => cases hi

/-! ### LOCK (R159) -/

/-- LOCK's reply says whether the key given is 0, which a key of 64 bits is as a number just when it is as a block. -/
theorem lockReply_eq {key : Nat} (h : key < 2 ^ 64) :
    [BitVec.ofNat 8 (bit (decide (BitVec.ofNat 64 key = 0)))] = [if key = 0 then (1 : Byte) else 0] := by
  have hzero : BitVec.ofNat 64 key = 0 ↔ key = 0 := by
    rw [← BitVec.toNat_inj, BitVec.toNat_ofNat, Nat.mod_eq_of_lt h]
    rfl
  simp only [bit, decide_eq_true_eq, hzero]
  split <;> rfl

theorem lockBody_written {key : Nat} {s u : State} (hlock : s.fmn.configLock = false) (hz : s.fmn.zeroisePending = false)
    (hw : drawWrite s = (false, u)) :
    lockBody key s = answered (Answer.ok [BitVec.ofNat 8 (bit (decide (BitVec.ofNat 64 key = 0)))])
      (u.withFmn { u.fmn with configLock := true, lockKey := BitVec.ofNat 64 key }) := by
  simp only [lockBody, hlock, hz, Bool.false_eq_true, if_false, writeOr_made _ hw]

/-- Settles O51: LOCK's own checks and write, the lock as the first check of the eight, and the failed write of the ten. -/
theorem configurationLock : Obligations.ConfigurationLock := by
  refine ⟨fun lane tag key s g u ht => ⟨fun hlock => ?_, fun hlock hz => ?_, fun hlock hz hw hkey => ?_⟩,
    fun i s g hi ht hlock => exec_configWork_answered (.inl hi) ht (configWork_locked hi hlock), fun i s g u hi ht hw => ?_⟩
  · exact exec_configWork_answered (.inr rfl) ht (if_pos hlock)
  · refine exec_configWork_answered (.inr rfl) ht ?_
    simp only [configWork, lockBody, hlock, hz, Bool.false_eq_true, if_false, if_true]
    rfl
  · rw [← lockReply_eq hkey]
    exact exec_configWork_answered (.inr rfl) ht (lockBody_written hlock hz hw)
  · obtain ⟨a, hanswered⟩ | hfailed := configWork_failsClean hi hw
    · exact .inl ⟨a, exec_configWork_answered (.inr hi) ht hanswered⟩
    · exact .inr (exec_configWork_answered (.inr hi) ht hfailed)

end Sys2Proof.Machine.KeysAndLock

/-! ## The credit computation: O30 -/

namespace Sys2Proof.Machine.TariffAndClock

open Sys2Proof Sys2Proof.Machine

/-! ### The block walk (R61, R62) -/

/-- A block either fits whole or is cut short, its price then above what stays. -/
theorem takeBlock_cases (limit p u money : Nat) (h : u ≤ limit) :
    (∃ rest, rest ≤ money ∧ takeBlock limit p u money = (limit, rest, true)) ∨
      ∃ u' rest, u' ≤ limit ∧ rest ≤ money ∧ rest < p ∧ takeBlock limit p u money = (u', rest, false) := by
  unfold takeBlock
  split
  case isTrue => exact .inl ⟨_, Nat.sub_le _ _, rfl⟩
  case isFalse hcut =>
    have hp : 0 < p := Nat.pos_of_ne_zero fun hzero => hcut (by simp [hzero])
    have hroom : money / p < limit - u := (Nat.div_lt_iff_lt_mul hp).mpr (Nat.lt_of_not_le hcut)
    have hrest : money - money / p * p = money % p := by rw [Nat.mul_comm, Nat.mod_eq_sub_mul_div]
    exact .inr ⟨_, _, by omega, Nat.sub_le _ _, hrest ▸ Nat.mod_lt _ hp, rfl⟩

/-- Where a walk from money `money` ends: at most at `top`, with no more money, and unclamped only in a block that it cuts short, with less
than that block's price. -/
structure WalkEnds (w : Walk) (top money : Nat) (prices : List Nat) : Prop where
  position_le : w.position ≤ top
  residual_le : w.residual ≤ money
  residual_lt : w.clamped = false → ∃ price ∈ prices, w.residual < price

theorem WalkEnds.mono {w : Walk} {top top' money money' : Nat} {prices prices' : List Nat} (h : WalkEnds w top money prices)
    (htop : top ≤ top') (hmoney : money ≤ money') (hprices : prices ⊆ prices') : WalkEnds w top' money' prices' where
  position_le := Nat.le_trans h.position_le htop
  residual_le := Nat.le_trans h.residual_le hmoney
  residual_lt hclamped :=
    have ⟨price, hmem, hprice⟩ := h.residual_lt hclamped
    ⟨price, hprices hmem, hprice⟩

theorem WalkEnds.clamped {u money rest top : Nat} {prices : List Nat} (hu : u ≤ top) (hrest : rest ≤ money) :
    WalkEnds ⟨u, rest, true⟩ top money prices :=
  ⟨hu, hrest, fun h => by cases h⟩

theorem WalkEnds.cut {u money rest price top : Nat} {prices : List Nat} (hu : u ≤ top) (hrest : rest ≤ money) (hmem : price ∈ prices)
    (hprice : rest < price) : WalkEnds ⟨u, rest, false⟩ top money prices :=
  ⟨hu, hrest, fun _ => ⟨price, hmem, hprice⟩⟩

/-- A walk ends at most at the ceiling, or where it began, and its prices are the last block's and those of the blocks with a bound. -/
theorem walk_ends (ceiling last : Nat) (bounded : List (Nat × Nat)) (u money : Nat) :
    WalkEnds (walk ceiling last bounded u money) (max u ceiling) money (last :: bounded.map (·.2)) := by
  induction bounded generalizing u money with
  | nil =>
    unfold walk
    split
    case isTrue => exact .clamped (Nat.le_max_left _ _) (Nat.le_refl _)
    case isFalse hroom =>
      obtain ⟨rest, hrest, htake⟩ | ⟨u', rest, hu', hrest, hprice, htake⟩ :=
        takeBlock_cases ceiling last u money (Nat.le_of_not_le hroom)
      · simp only [htake]
        exact .clamped (Nat.le_max_right _ _) hrest
      · simp only [htake]
        exact .cut (by omega) hrest List.mem_cons_self hprice
  | cons block blocks ih =>
    obtain ⟨bound, p⟩ := block
    have hprices : last :: blocks.map (·.2) ⊆ last :: ((bound, p) :: blocks).map (·.2) :=
      List.cons_subset_cons _ (List.subset_cons_self _ _)
    unfold walk
    split
    case isTrue => exact .clamped (Nat.le_max_left _ _) (Nat.le_refl _)
    case isFalse hroom =>
      split
      case isTrue => exact (ih u money).mono (Nat.le_refl _) (Nat.le_refl _) hprices
      case isFalse hbound =>
        obtain ⟨rest, hrest, htake⟩ | ⟨u', rest, hu', hrest, hprice, htake⟩ :=
          takeBlock_cases (min bound ceiling) p u money (by omega)
        · simp only [htake]
          split
          case isTrue => exact .clamped (by omega) hrest
          case isFalse => exact (ih _ rest).mono (by omega) hrest hprices
        · simp only [htake]
          exact .cut (by omega) hrest (List.mem_cons_of_mem _ List.mem_cons_self) hprice

/-! ### The paid path (R59 to R65) -/

/-- The money a paid computation walks with, in milli-cents: M of R60. -/
def walkMoney (r : Record) (p : Plan) (t : Nat) : Nat := (t - fixedDue r p - recoveryOf r (t - fixedDue r p)) * 1000 + r.carry

/-- The walk of a paid computation. -/
def paidWalk (r : Record) (p : Plan) (t : Nat) : Walk := walk p.ceiling p.lastPrice p.bounded r.units (walkMoney r p t)

theorem paidWalk_ends (r : Record) (p : Plan) (t : Nat) :
    WalkEnds (paidWalk r p t) (max r.units p.ceiling) (walkMoney r p t) (p.lastPrice :: p.bounded.map (·.2)) :=
  walk_ends _ _ _ _ _

/-- The least tender that, with the carry in, covers a cost: q of R64. -/
def coveringTender (carry cost : Nat) : Nat := if cost ≤ carry then 0 else (cost - carry + 999) / 1000

theorem coveringTender_covers (carry cost : Nat) : cost ≤ coveringTender carry cost * 1000 + carry := by
  unfold coveringTender
  split <;> omega

theorem coveringTender_least {carry cost n : Nat} (h : cost ≤ n * 1000 + carry) : coveringTender carry cost ≤ n := by
  unfold coveringTender
  split <;> omega

/-- What the covering tender brings above the cost is less than a cent, or part of the carry in. -/
theorem coveringTender_excess (carry cost : Nat) : coveringTender carry cost * 1000 + carry - cost ≤ max carry 999 := by
  unfold coveringTender
  split <;> omega

/-- The figures of a paid computation that opens a quote, by its walk: unclamped, the whole tender is accepted and the walk's residual
carried; clamped, only what covers the cost is accepted. -/
theorem paidFigures_ok {r : Record} {p : Plan} {t : Nat} {restricted : Bool} {f : Figures}
    (h : paidFigures r p t restricted = .ok f) :
    f.fixed = fixedDue r p ∧ f.recovery = recoveryOf r (t - fixedDue r p) ∧ f.free = freeDue r p ∧ 0 < f.energy ∧
      f.energy = (paidWalk r p t).position - r.units ∧ f.cost = walkMoney r p t - (paidWalk r p t).residual ∧
      ((paidWalk r p t).clamped = false ∧ f.accepted = t ∧ f.carryOut = (paidWalk r p t).residual ∨
        f.accepted = f.fixed + f.recovery + coveringTender r.carry f.cost ∧
          f.carryOut = coveringTender r.carry f.cost * 1000 + r.carry - f.cost) := by
  simp only [paidFigures] at h
  split at h
  case isTrue hclamped =>
    split at h
    case isTrue => cases h
    case isFalse henergy =>
      cases h
      exact ⟨rfl, rfl, rfl, Nat.pos_of_ne_zero henergy, rfl, rfl, .inr ⟨rfl, rfl⟩⟩
  case isFalse hclamped =>
    split at h
    case isTrue => cases h
    case isFalse henergy =>
      cases h
      exact ⟨rfl, rfl, rfl, Nat.pos_of_ne_zero henergy, rfl, rfl, .inl ⟨Bool.eq_false_iff.mpr hclamped, rfl, rfl⟩⟩

/-! ### The conservation identity (R67) -/

/-- What the figures of a computation that opens a quote keep: the identity of R67, and the bounds from which O30's ranges follow for a
record and a plan in theirs. -/
structure Conserves (r : Record) (p : Plan) (offered : Nat) (f : Figures) : Prop where
  identity : f.accepted * 1000 + r.carry = f.fixed * 1000 + f.recovery * 1000 + f.cost + f.carryOut
  accepted_le : f.accepted ≤ offered
  recovery_le : f.recovery ≤ r.arrears
  token : 0 < f.energy ∨ 0 < f.free
  units_le : r.units + f.energy ≤ max r.units p.ceiling
  carry_bound : f.carryOut ≤ max r.carry 999 ∨ ∃ price ∈ p.lastPrice :: p.bounded.map (·.2), f.carryOut < price

/-- At a rate of at most 100 percent the recovery takes no more than the net tender. -/
theorem recoveryOf_le {r : Record} (net : Nat) (h : r.rate ≤ 100) : recoveryOf r net ≤ net := by
  have hshare : net * r.rate / 100 ≤ net := Nat.div_le_of_le_mul (by rw [Nat.mul_comm 100]; exact Nat.mul_le_mul_left net h)
  exact Nat.le_trans (Nat.min_le_right _ _) hshare

theorem freeFigures_conserves {r : Record} {p : Plan} {offered : Nat} {restricted : Bool} {f : Figures}
    (h : freeFigures r p restricted = .ok f) : Conserves r p offered f := by
  unfold freeFigures at h
  split at h
  case isTrue => cases h
  case isFalse hfree =>
    cases h
    exact ⟨by simp, Nat.zero_le _, Nat.zero_le _, .inr (Nat.pos_of_ne_zero hfree), Nat.le_max_left _ _, .inl (Nat.le_max_left _ _)⟩

theorem paidFigures_conserves {r : Record} {p : Plan} {t : Nat} {restricted : Bool} {f : Figures}
    (h : paidFigures r p t restricted = .ok f) (hrate : r.rate ≤ 50) (hfixed : fixedDue r p ≤ t) : Conserves r p t f := by
  obtain ⟨hf, hrecovery, -, hpos, henergy, hcost, hpaid⟩ := paidFigures_ok h
  obtain ⟨hposition, hresidual, hcut⟩ := paidWalk_ends r p t
  have hnet : f.recovery ≤ t - f.fixed := hf ▸ hrecovery ▸ recoveryOf_le _ (by omega)
  have hmoney : walkMoney r p t = (t - f.fixed - f.recovery) * 1000 + r.carry := by rw [hf, hrecovery, walkMoney]
  have harrears : f.recovery ≤ r.arrears := hrecovery ▸ Nat.min_le_left _ _
  rw [← hf] at hfixed
  obtain ⟨hclamped, haccepted, hcarry⟩ | ⟨haccepted, hcarry⟩ := hpaid
  · exact ⟨by omega, by omega, harrears, .inl hpos, by omega, .inr (hcarry ▸ hcut hclamped)⟩
  · have hcovers := coveringTender_covers r.carry f.cost
    have hpayable : f.cost ≤ (t - f.fixed - f.recovery) * 1000 + r.carry := hmoney ▸ hcost ▸ Nat.sub_le _ _
    have hleast := coveringTender_least hpayable
    exact ⟨by omega, by omega, harrears, .inl hpos, by omega, .inl (hcarry ▸ coveringTender_excess _ _)⟩

/-- A computation that opens a quote takes the free-only path, or the paid one with a tender, at most the offered one, that bears the
fixed charge. -/
theorem computeCredit_paths {r : Record} {p : Plan} {offered : Nat} {cap : Option Nat} {f : Figures}
    (h : computeCredit r p offered cap = .ok f) :
    ∃ t ≤ offered, freeFigures r p cap.isSome = .ok f ∨ fixedDue r p ≤ t ∧ paidFigures r p t cap.isSome = .ok f := by
  obtain ⟨t, hoffered, hpath⟩ : ∃ t ≤ offered, (if t = 0 then freeFigures r p cap.isSome
      else if t < fixedDue r p + p.minimum then .error .tenderLow else paidFigures r p t cap.isSome) = .ok f := by
    cases cap with
    | none => exact ⟨offered, Nat.le_refl _, h⟩
    | some c => exact ⟨min offered c, Nat.min_le_left _ _, h⟩
  refine ⟨t, hoffered, ?_⟩
  split at hpath
  case isTrue => exact .inl hpath
  case isFalse =>
    split at hpath
    case isTrue => cases hpath
    case isFalse hlow => exact .inr ⟨by omega, hpath⟩

theorem computeCredit_conserves {r : Record} {p : Plan} {offered : Nat} {cap : Option Nat} {f : Figures}
    (h : computeCredit r p offered cap = .ok f) (hrate : r.rate ≤ 50) : Conserves r p offered f := by
  obtain ⟨t, hoffered, hpath⟩ := computeCredit_paths h
  obtain hfree | ⟨hfixed, hpaid⟩ := hpath
  · exact freeFigures_conserves hfree
  · have hconserves := paidFigures_conserves hpaid hrate hfixed
    exact { hconserves with accepted_le := Nat.le_trans hconserves.accepted_le hoffered }

/-- Settles O30: the ranges follow from where the walk ends and from what the prices leave. -/
theorem conservationIdentity : Obligations.ConservationIdentity := by
  intro r p offered cap f h hrate
  obtain ⟨hidentity, haccepted, hrecovery, htoken, hunits, hcarry⟩ := computeCredit_conserves h hrate
  refine ⟨hidentity, haccepted, hrecovery, fun change => ?_, fun hu hc => by omega, fun hc hlast hprices => ?_⟩
  · unfold Figures.tokenCount
    split <;> split <;> split <;> omega
  · obtain hexcess | ⟨price, hmem, hprice⟩ := hcarry
    · omega
    · have hrange : price ≤ 100000 := by
        obtain rfl | hmem := List.mem_cons.mp hmem
        · exact hlast
        · obtain ⟨block, hblock, rfl⟩ := List.mem_map.mp hmem
          exact hprices block hblock
      omega

end Sys2Proof.Machine.TariffAndClock

/-! ## LOAD PLAN and ARM PLANS: O29 -/

namespace Sys2Proof.Machine.TariffAndClock

open Sys2Proof Sys2Proof.Machine Sys2Proof.Machine.KeysAndLock

/-! ### What a write drawn leaves alone -/

theorem drawWrite_ttb {s u : State} {b : Bool} (h : drawWrite s = (b, u)) : u.ttb = s.ttb := by
  rw [drawWrite_frame h]
  rfl

theorem drawWrite_clk {s u : State} {b : Bool} (h : drawWrite s = (b, u)) : u.clk = s.clk := by
  rw [drawWrite_frame h]
  rfl

theorem drawWrite_freeReads {s u : State} {b : Bool} (h : drawWrite s = (b, u)) : u.freeReads = s.freeReads := by
  rw [drawWrite_frame h]
  rfl

/-! ### LOAD PLAN (R46, R48, R49) -/

/-- What holds of the prices in use holds of the first, and of each further one from its block count on. -/
theorem forall_planPrices {f : PlanFields} {P : Nat → Prop} (hlow : 1 ≤ f.blocks) (hhigh : f.blocks ≤ 4) :
    (∀ p ∈ planPrices f, P p) ↔
      P f.price1 ∧ (2 ≤ f.blocks → P f.price2) ∧ (3 ≤ f.blocks → P f.price3) ∧ (4 ≤ f.blocks → P f.price4) := by
  obtain h | h | h | h : f.blocks = 1 ∨ f.blocks = 2 ∨ f.blocks = 3 ∨ f.blocks = 4 := by omega
  all_goals simp [planPrices, h]

/-- The last block has no bound. -/
theorem forall_planBounds {f : PlanFields} {P : Nat → Prop} (hlow : 1 ≤ f.blocks) (hhigh : f.blocks ≤ 4) :
    (∀ b ∈ planBounds f, P b) ↔ (2 ≤ f.blocks → P f.bound1) ∧ (3 ≤ f.blocks → P f.bound2) ∧ (4 ≤ f.blocks → P f.bound3) := by
  obtain h | h | h | h : f.blocks = 1 ∨ f.blocks = 2 ∨ f.blocks = 3 ∨ f.blocks = 4 := by omega
  all_goals simp [planBounds, h]

theorem planBounds_ascending {f : PlanFields} (hlow : 1 ≤ f.blocks) (hhigh : f.blocks ≤ 4) :
    (planBounds f).Pairwise (· < ·) ↔
      (3 ≤ f.blocks → f.bound1 < f.bound2) ∧ (4 ≤ f.blocks → f.bound1 < f.bound3 ∧ f.bound2 < f.bound3) := by
  obtain h | h | h | h : f.blocks = 1 ∨ f.blocks = 2 ∨ f.blocks = 3 ∨ f.blocks = 4 := by omega
  all_goals simp [planBounds, h, and_assoc]

/-- A plan's fields are in range just when each field in use is, the bounds ascending from one block to the next. -/
theorem planValid_iff {f : PlanFields} :
    planValid f = true ↔
      1 ≤ f.blocks ∧ f.blocks ≤ 4 ∧ f.fixed ≤ 100000 ∧ f.minimum ≤ 100000 ∧ 1 ≤ f.ceiling ∧ f.ceiling ≤ 60000 ∧ f.free ≤ 2000 ∧
        1 ≤ f.price1 ∧ f.price1 ≤ 100000 ∧
        (2 ≤ f.blocks → 1 ≤ f.price2 ∧ f.price2 ≤ 100000 ∧ 1 ≤ f.bound1 ∧ f.bound1 ≤ 60000) ∧
        (3 ≤ f.blocks → 1 ≤ f.price3 ∧ f.price3 ≤ 100000 ∧ f.bound1 < f.bound2 ∧ f.bound2 ≤ 60000) ∧
        (4 ≤ f.blocks → 1 ≤ f.price4 ∧ f.price4 ≤ 100000 ∧ f.bound2 < f.bound3 ∧ f.bound3 ≤ 60000) := by
  by_cases hcount : 1 ≤ f.blocks ∧ f.blocks ≤ 4
  case neg =>
    have hinvalid : planValid f = false := by
      unfold planValid
      rw [← Bool.decide_and, decide_eq_false hcount]
      simp only [Bool.false_and]
    exact ⟨fun h => by simp [hinvalid] at h, fun ⟨hlow, hhigh, _⟩ => absurd ⟨hlow, hhigh⟩ hcount⟩
  case pos =>
    obtain ⟨hlow, hhigh⟩ := hcount
    simp only [planValid, Bool.and_eq_true, List.all_eq_true, decide_eq_true_eq, forall_planPrices hlow hhigh,
      forall_planBounds hlow hhigh, planBounds_ascending hlow hhigh]
    simp only [Config.maxUnits, Config.maxFree]
    omega

/-- The plan a LOAD PLAN gives, by its block count. -/
theorem planGiven_eq {f : PlanFields} (hlow : 1 ≤ f.blocks) (hhigh : f.blocks ≤ 4) :
    planGiven f = ⟨f.fixed, f.minimum, f.ceiling, f.free,
      if f.blocks = 1 then [] else if f.blocks = 2 then [(f.bound1, f.price1)]
        else if f.blocks = 3 then [(f.bound1, f.price1), (f.bound2, f.price2)]
        else [(f.bound1, f.price1), (f.bound2, f.price2), (f.bound3, f.price3)],
      if f.blocks = 1 then f.price1 else if f.blocks = 2 then f.price2 else if f.blocks = 3 then f.price3 else f.price4⟩ := by
  obtain h | h | h | h : f.blocks = 1 ∨ f.blocks = 2 ∨ f.blocks = 3 ∨ f.blocks = 4 := by omega
  all_goals simp [planGiven, planPrices, planBounds, h]

/-- A LOAD PLAN that passes its checks, its write made. -/
theorem loadPlanBody_written {index clear : Nat} {f : PlanFields} {s u : State} (hlock : s.fmn.configLock = false)
    (hindex : index ≤ 15) (hclear : clear ≤ 1) (hvalid : clear = 0 → planValid f = true) (hw : drawWrite s = (false, u)) :
    loadPlanBody index clear f s =
      answered (Answer.ok (fieldBytes [(1, index), (1, bit (decide (clear = 0))), (1, bit s.ttb.armed.isSome)]))
        (u.withTtb { u.ttb with staged := put u.ttb.staged index (if clear = 0 then some (planGiven f) else none), armed := none }) := by
  have hpass : ¬ (15 < index ∨ (!yesNo clear) = true ∨ clear = 0 ∧ (!planValid f) = true) := by
    simp only [yesNo, Bool.not_eq_true', decide_eq_false_iff_not, not_or, not_and, Bool.not_eq_false]
    exact ⟨by omega, by omega, hvalid⟩
  simp only [loadPlanBody, hlock, hpass, Bool.false_eq_true, if_false, writeOr_made _ hw, drawWrite_ttb hw]

/-- A LOAD PLAN that fails one of its checks. -/
theorem loadPlanBody_outOfRange {index clear : Nat} {f : PlanFields} {s : State} (hlock : s.fmn.configLock = false)
    (h : 15 < index ∨ 1 < clear ∨ clear = 0 ∧ planValid f = false) : loadPlanBody index clear f s = refuse .outOfRange s := by
  have hfail : 15 < index ∨ (!yesNo clear) = true ∨ clear = 0 ∧ (!planValid f) = true := by
    simpa [yesNo] using h
  simp only [loadPlanBody, hlock, hfail, Bool.false_eq_true, if_false, if_true]

/-! ### ARM PLANS (R50) -/

theorem armPlansBody_outOfRange {disarm month : Nat} {s : State} (hlock : s.fmn.configLock = false)
    (h : 1 < disarm ∨ disarm = 0 ∧ (4095 < month ∨ month ≤ s.clk.month)) : armPlansBody disarm month s = refuse .outOfRange s := by
  have hfail : (!yesNo disarm) = true ∨ disarm = 0 ∧ (Config.lastMonth < month ∨ month ≤ s.clk.month) := by
    simpa [yesNo, Config.lastMonth] using h
  simp only [armPlansBody, hlock, hfail, Bool.false_eq_true, if_false, if_true]

/-- ARM PLANS past its checks: the month armed, or the bank disarmed, which writes nothing when it was not armed. -/
theorem armPlansBody_inRange {disarm month : Nat} {s : State} (hlock : s.fmn.configLock = false) (hdisarm : disarm ≤ 1)
    (hmonth : disarm = 0 → s.clk.month < month ∧ month ≤ 4095) :
    armPlansBody disarm month s =
      if disarm = 0 then armWith (some month) s
      else if s.ttb.armed.isNone then answered (Answer.ok (armPayload s)) s
      else armWith none s := by
  have hpass : ¬ ((!yesNo disarm) = true ∨ disarm = 0 ∧ (Config.lastMonth < month ∨ month ≤ s.clk.month)) := by
    simp only [yesNo, Config.lastMonth, Bool.not_eq_true', decide_eq_false_iff_not]
    omega
  simp only [armPlansBody, hlock, hpass, Bool.false_eq_true, if_false]

theorem armWith_made {month : Option Nat} {s u : State} (hw : drawWrite s = (false, u)) :
    armWith month s = answered (Answer.ok (presenceBytes s 0 2 month ++ beBytes 2 s.ttb.generation))
      (u.withTtb { u.ttb with armed := month }) := by
  simp only [armWith, writeOr_made _ hw, armPayload, State.withTtb_ttb, drawWrite_ttb hw]
  cases month <;> simp [presenceBytes, openBytes, drawWrite_freeReads hw]

/-- Settles O29: the checks of each request by the ranges of its fields, then its write. -/
theorem plansStagedAndArmed : Obligations.PlansStagedAndArmed := by
  refine ⟨fun lane tag index clear f s g u ht hlock => ⟨fun hfail => ?_, fun hindex hclear hw => ?_, ?_⟩,
    fun lane tag disarm month s g u ht hlock => ⟨fun hfail => ?_, fun harm habove hlast hw => ?_, fun hdisarm => ?_⟩⟩
  · have hinvalid : 15 < index ∨ 1 < clear ∨ clear = 0 ∧ planValid f = false := by
      rw [← Bool.not_eq_true, planValid_iff]
      omega
    exact exec_configWork_answered (.inl rfl) ht (loadPlanBody_outOfRange hlock hinvalid)
  · subst hclear
    have hbody := loadPlanBody_written (f := f) hlock hindex (Nat.le_refl 1) (by omega) hw
    exact exec_configWork_answered (.inl rfl) ht hbody
  · intro hindex hclear hlow hhigh hfixed hminimum hceil hceiling hfree hprice hprice1 h2 h3 h4 hw p hp
    have hvalid : planValid f = true :=
      planValid_iff.mpr ⟨hlow, hhigh, hfixed, hminimum, hceil, hceiling, hfree, hprice, hprice1, h2, h3, h4⟩
    subst hclear
    have hbody := loadPlanBody_written hlock hindex (Nat.zero_le 1) (fun _ => hvalid) hw
    rw [planGiven_eq hlow hhigh, ← hp] at hbody
    exact exec_configWork_answered (.inl rfl) ht hbody
  · exact exec_configWork_answered (.inl rfl) ht (armPlansBody_outOfRange hlock hfail)
  · have hbody := (armPlansBody_inRange hlock (by omega) fun _ => ⟨habove, hlast⟩).trans ((if_pos harm).trans (armWith_made hw))
    exact exec_configWork_answered (.inl rfl) ht hbody
  · have hbody := armPlansBody_inRange (month := month) hlock (by omega : disarm ≤ 1) (by omega)
    rw [if_neg (by omega)] at hbody
    refine ⟨openBytes g 1 2, by simp [openBytes], fun hnone => exec_configWork_answered (.inl rfl) ht ?_,
      fun hsome hw => exec_configWork_answered (.inl rfl) ht ?_⟩
    · refine (hbody.trans (if_pos (by simp [hnone]))).trans ?_
      rw [armPayload, hnone]
      rfl
    · exact (hbody.trans (if_neg (by simpa using hsome))).trans (armWith_made hw)

end Sys2Proof.Machine.TariffAndClock

/-! ## The month roll and SET CLOCK: O42 and O44 -/

namespace Sys2Proof.Machine.TariffAndClock

open Sys2Proof Sys2Proof.Machine Sys2Proof.Machine.KeysAndLock

/-! ### The month roll (R51, R138, R139) -/

theorem boundaryReached_some {c : Clk} {b : Nat} (h : c.boundary = some b) : c.boundaryReached = decide (b ≤ c.minute) := by
  simp [Clk.boundaryReached, h]

theorem boundaryReached_none {c : Clk} (h : c.boundary = none) : c.boundaryReached = false := by
  simp [Clk.boundaryReached, h]

/-- The tariff tables a month roll leaves: the banks swapped when the new month is the armed one, and no swap at the last month. -/
def rolledTtb (s : State) : Ttb :=
  if s.clk.month < 4095 ∧ s.ttb.armed = some (s.clk.month + 1) then
    ⟨s.ttb.staged, s.ttb.active, none, (s.ttb.generation + 1) % 65536⟩ else s.ttb

/-- A month roll's write changes the clock and the tariff tables and nothing else. -/
theorem rolledMonth_eq (s : State) :
    rolledMonth s =
      (s.withClk { s.clk with month := min (s.clk.month + 1) 4095, boundary := none, rollWaiting := false }).withTtb (rolledTtb s) := by
  unfold rolledMonth rolledTtb Config.lastMonth
  by_cases hlast : s.clk.month < 4095
  · have hmonth : min (s.clk.month + 1) 4095 = s.clk.month + 1 := Nat.min_eq_left hlast
    simp only [hmonth]
    split <;> rfl
  · simp only [hlast, false_and, if_false]
    rfl

theorem rollMonth_made {s u : State} (hw : drawWrite s = (false, u)) :
    rollMonth s = (true, (u.withClk { s.clk with month := min (s.clk.month + 1) 4095, boundary := none, rollWaiting := false }).withTtb
      (rolledTtb s)) := by
  have hsame : rolledTtb u = rolledTtb s := by simp only [rolledTtb, drawWrite_clk hw, drawWrite_ttb hw]
  rw [rollMonth, retained_made _ _ hw, rolledMonth_eq, hsame, drawWrite_clk hw]

theorem rollMonth_failed {s u : State} (hw : drawWrite s = (true, u)) :
    rollMonth s = (false, (raise .storeWrite u).withClk { u.clk with rollWaiting := true }) :=
  retained_failed _ _ hw

/-- A roll that arrives at a part that is started up, and a waiting one that is taken again there, come to one and the same roll. -/
theorem exec_roll {c : Instr} {s : State} (hsupply : s.supply = true) (hup : s.startUp = .done) (hreached : s.clk.boundaryReached = true)
    (hc : c = .monthRoll ∧ s.clk.rollWaiting = false ∨ c = .monthRollRetry ∧ s.clk.rollWaiting = true) :
    exec c s = .next (rollMonth s).2 := by
  obtain ⟨rfl, hwaits⟩ | ⟨rfl, hwaits⟩ := hc
  · change execMonthRoll s = _
    simp [execMonthRoll, powered, hsupply, hup, hreached, hwaits]
  · change execMonthRollRetry s = _
    simp [execMonthRollRetry, powered, hsupply, hup, hreached, hwaits]

/-- Settles O44: the roll and its retry are one write, made or failed. -/
theorem monthRolls : Obligations.MonthRolls := by
  intro s u b hsupply hup hboundary hreached c hc
  have hroll := exec_roll hsupply hup ((boundaryReached_some hboundary).trans (decide_eq_true hreached)) hc
  refine ⟨fun hw => ?_, fun hw => ?_⟩
  · rw [hroll, rollMonth_made hw, drawWrite_clk hw]
    rfl
  · rw [hroll, rollMonth_failed hw]

/-! ### SET CLOCK (R135) -/

/-- The state a forward jump sets before the boundary is looked at. -/
def jumped (minute : Nat) (s : State) : State := s.withClk { s.clk with minute := minute, second := 0 }

theorem jumpClock_eq (minute : Nat) (s : State) :
    jumpClock minute s =
      if (jumped minute s).clk.boundaryReached then rollMonth (jumped minute s) else (false, jumped minute s) := rfl

/-- A forward jump rolls the month just when the boundary is at or below the minute it goes to. -/
theorem jumpClock_some {minute b : Nat} {s : State} (h : s.clk.boundary = some b) :
    jumpClock minute s = if b ≤ minute then rollMonth (jumped minute s) else (false, jumped minute s) := by
  have hreached : (jumped minute s).clk.boundaryReached = decide (b ≤ minute) := boundaryReached_some h
  simp only [jumpClock_eq, hreached, decide_eq_true_eq]

theorem jumpClock_none {minute : Nat} {s : State} (h : s.clk.boundary = none) : jumpClock minute s = (false, jumped minute s) := by
  have hreached : (jumped minute s).clk.boundaryReached = false := boundaryReached_none h
  simp only [jumpClock_eq, hreached, Bool.false_eq_true, if_false]

/-- SET CLOCK forward is answered as its jump, rolled or not, leaves the part. -/
theorem setClockBody_forward {minute : Nat} {s t : State} {rolled : Bool} (h : s.clk.minute < minute)
    (hjump : jumpClock minute s = (rolled, t)) : setClockBody minute s = answered (Answer.ok (setClockPayload t rolled)) t := by
  rw [setClockBody, if_neg (by omega), if_neg (by omega), hjump]

theorem exec_setClock_answered {lane tag minute : Nat} {s g t : State} {a : Answer} (h : taken (.setClock lane tag minute) s = some g)
    (hb : setClockBody minute g = answered a t) : exec (.setClock lane tag minute) s = .next (finish a t) :=
  serve_answered h hb

theorem setClockPayload_take (s : State) (rolled : Bool) :
    (setClockPayload s rolled).take 6 = fieldBytes [(3, s.clk.minute), (1, s.clk.second), (2, s.clk.month)] := rfl

theorem setClockPayload_take_absent {s : State} (rolled : Bool) (h : s.clk.boundary = none) :
    (setClockPayload s rolled).take 7 = fieldBytes [(3, s.clk.minute), (1, s.clk.second), (2, s.clk.month), (1, 0)] := by
  simp only [setClockPayload, h]
  rfl

theorem setClockPayload_present {s : State} {b : Nat} (rolled : Bool) (h : s.clk.boundary = some b) :
    setClockPayload s rolled =
      fieldBytes [(3, s.clk.minute), (1, s.clk.second), (2, s.clk.month), (1, 1), (3, b), (2, s.ttb.generation), (1, bit rolled)] := by
  simp only [setClockPayload, h]
  rfl

theorem setClockPayload_getLast? (s : State) (rolled : Bool) :
    (setClockPayload s rolled).getLast? = some (BitVec.ofNat 8 (bit rolled)) := by
  have hend : fieldBytes [(2, s.ttb.generation), (1, bit rolled)] = beBytes 2 s.ttb.generation ++ [BitVec.ofNat 8 (bit rolled)] := by
    simp [fieldBytes, beBytes]
  rw [setClockPayload, hend, ← List.append_assoc, List.getLast?_concat]

/-- Settles O42: a SET CLOCK is refused, changes nothing, or jumps; and a jump falls short of the boundary or rolls the month, its write
made or failed. -/
theorem setClockJumps : Obligations.SetClockJumps := by
  intro lane tag minute s g u ht
  refine ⟨fun hback => exec_setClock_answered ht (if_pos hback), fun hsame => ?_, fun hforward => ⟨fun b hb hshort => ?_, fun hnone => ?_,
    fun b hb hreached hw => ?_, fun b hb hreached hw => ?_⟩⟩
  · have hbody : setClockBody minute g = answered (Answer.ok (setClockPayload g false)) g := by
      rw [setClockBody, if_neg (by omega), if_pos hsame]
    exact ⟨_, exec_setClock_answered ht hbody, hsame ▸ setClockPayload_take g false, setClockPayload_getLast? g false⟩
  · have hjump := (jumpClock_some hb).trans (if_neg (Nat.not_le_of_lt hshort))
    have hexec := exec_setClock_answered ht (setClockBody_forward hforward hjump)
    rwa [setClockPayload_present (s := jumped minute g) _ hb] at hexec
  · have hjump := jumpClock_none (minute := minute) hnone
    exact ⟨_, exec_setClock_answered ht (setClockBody_forward hforward hjump),
      setClockPayload_take_absent (s := jumped minute g) false hnone, setClockPayload_getLast? _ false⟩
  · have hjump := (jumpClock_some hb).trans (if_pos hreached)
    have hexec := exec_setClock_answered ht (setClockBody_forward hforward (hjump.trans (rollMonth_failed hw)))
    have hclk : u.clk = (jumped minute g).clk := drawWrite_clk hw
    have httb : u.ttb = (jumped minute g).ttb := drawWrite_ttb hw
    rw [setClockPayload_present (b := b) _ (by simpa [hclk, jumped] using hb)] at hexec
    simpa [hclk, httb, raise_eq, jumped, bit] using hexec
  · have hjump := (jumpClock_some hb).trans (if_pos hreached)
    exact ⟨_, _, exec_setClock_answered ht (setClockBody_forward hforward (hjump.trans (rollMonth_made hw))),
      setClockPayload_take _ true, setClockPayload_getLast? _ true, rfl⟩

end Sys2Proof.Machine.TariffAndClock

/-! ## WITHDRAW, the expiries and COUNTERSIGN: O34, O35 and O36 -/

namespace Sys2Proof.Machine.Quotes

open Sys2Proof Sys2Proof.Machine Sys2Proof.Machine.KeysAndLock

/-! ### WITHDRAW and the outcome notes (R79, R85, R151) -/

theorem answerNote_expired {lane : Nat} {s : State} (h : s.noteAt lane = .expired) :
    answerNote lane s = answered (Answer.bare .late) (setNote lane .none s) := by
  simp only [answerNote, h, refuse]

theorem answerNote_voided {lane : Nat} {s : State} (h : s.noteAt lane = .voided) :
    answerNote lane s = answered (Answer.bare .voided) (setNote lane .none s) := by
  simp only [answerNote, h, refuse]

theorem answerNote_none {lane : Nat} {s : State} (h : s.noteAt lane = .none) :
    answerNote lane s = answered (Answer.bare .noQuote) s := by
  simp only [answerNote, h, refuse]

theorem withdrawBody_noQuote {lane : Nat} {s : State} (h : s.quoteAt lane = none) : withdrawBody lane s = answerNote lane s := by
  simp only [withdrawBody, h]

theorem withdrawBody_waiting {lane : Nat} {s : State} {q : Quote} (h : s.quoteAt lane = some q) (hq : q.state ≠ .issuing) :
    withdrawBody lane s = answered (Answer.ok (fieldBytes [(5, q.meter), (4, q.accepted)])) (voidQuote lane s) := by
  simp only [withdrawBody, h, if_neg hq]

theorem issueBody_noQuote {lane : Nat} {s : State} (h : s.quoteAt lane = none) : issueBody lane s = answerNote lane s := by
  simp only [issueBody, h]

theorem issueBody_held {lane : Nat} {s : State} {q : Quote} (h : s.quoteAt lane = some q) (hq : q.state = .held) :
    issueBody lane s = answered (Answer.bare .countersignRequired) s := by
  simp only [issueBody, h, hq, refuse]

theorem issueBody_opened {lane : Nat} {s : State} {q : Quote} (h : s.quoteAt lane = some q) (hq : q.state = .opened)
    (hpassed : s.tcu.passed = true) : issueBody lane s = proceedIssue lane q s := by
  simp only [issueBody, h, hq, hpassed, Bool.not_true, Bool.false_eq_true, if_false]

theorem exec_withdraw_answered {lane tag : Nat} {s g t : State} {a : Answer} (h : taken (.withdraw lane tag) s = some g)
    (hb : withdrawBody lane g = answered a t) : exec (.withdraw lane tag) s = .next (finish a t) :=
  serve_answered h hb

theorem exec_issue_answered {lane tag : Nat} {s g t : State} {a : Answer} (h : taken (.issue lane tag) s = some g)
    (hb : issueBody lane g = answered a t) : exec (.issue lane tag) s = .next (finish a t) :=
  serve_answered h hb

/-- Settles O34: WITHDRAW and ISSUE by the lane's entry, and, where it is empty, by the lane's note. -/
theorem withdrawAndNotes : Obligations.WithdrawAndNotes := by
  refine fun lane tag s g => ⟨fun ht => ?_, fun ht => ?_⟩
  · exact ⟨fun q hq hwaits => exec_withdraw_answered ht (withdrawBody_waiting hq hwaits),
      fun hq hn => exec_withdraw_answered ht ((withdrawBody_noQuote hq).trans (answerNote_expired hn)),
      fun hq hn => exec_withdraw_answered ht ((withdrawBody_noQuote hq).trans (answerNote_voided hn)),
      fun hq hn => exec_withdraw_answered ht ((withdrawBody_noQuote hq).trans (answerNote_none hn))⟩
  · exact ⟨fun hq hn => exec_issue_answered ht ((issueBody_noQuote hq).trans (answerNote_expired hn)),
      fun hq hn => exec_issue_answered ht ((issueBody_noQuote hq).trans (answerNote_voided hn)),
      fun hq hn => exec_issue_answered ht ((issueBody_noQuote hq).trans (answerNote_none hn)),
      fun q hq hheld => exec_issue_answered ht (issueBody_held hq hheld)⟩

/-! ### The lease expiry and the deadline's expiry (R77, R120) -/

theorem leaseReached_iff {q : Quote} {c : Clk} :
    q.leaseReached c = true ↔ q.leaseMinute * 60 + q.leaseSecond ≤ c.minute * 60 + c.second := decide_eq_true_iff

/-- With supply on, a lane's lease expiry voids its quote, unless that is ISSUING, from the lease's last second on and no sooner. -/
theorem exec_leaseExpiry {lane : Nat} {s : State} {q : Quote} (hs : s.supply = true) (hq : s.quoteAt lane = some q) :
    exec (.leaseExpiry lane) s = .next (if q.leaseReached s.clk then voidWaiting .expired lane s else s) := by
  simp only [exec, execLeaseExpiry, powered_on _ hs, hq, Option.any_some]

theorem voidWaiting_issuing {note : Note} {lane : Nat} {s : State} {q : Quote} (hq : s.quoteAt lane = some q) (h : q.state = .issuing) :
    voidWaiting note lane s = s := by
  simp only [voidWaiting, hq, if_pos h]

theorem voidWaiting_waiting {note : Note} {lane : Nat} {s : State} {q : Quote} (hq : s.quoteAt lane = some q) (h : q.state ≠ .issuing) :
    voidWaiting note lane s = setNote lane note (voidQuote lane s) := by
  simp only [voidWaiting, hq, if_neg h]

theorem exec_deadlineExpiry {s : State} (hs : s.supply = true) :
    exec .deadlineExpiry s = .next (if s.deadlineReached then s.withFlt { s.flt with noted := true } else s) :=
  powered_on _ hs

theorem deadlineReached_some {s : State} {d : Nat} (h : s.flt.deadline = some d) : s.deadlineReached = decide (d ≤ s.clk.minute) := by
  simp only [State.deadlineReached, h, Option.any_some]

theorem deadlineReached_none {s : State} (h : s.flt.deadline = none) : s.deadlineReached = false := by
  simp only [State.deadlineReached, h, Option.any_none]

theorem restrictedMode_some {s : State} {d : Nat} (h : s.flt.deadline = some d) : s.restrictedMode = decide (d ≤ s.clk.minute) := by
  simp only [State.restrictedMode, h, Option.all_some]

theorem restrictedMode_none {s : State} (h : s.flt.deadline = none) : s.restrictedMode = true := by
  simp only [State.restrictedMode, h, Option.all_none]

/-- Settles O35: each expiry acts just when the clock stands at or past it. -/
theorem expiriesAct : Obligations.ExpiriesAct := by
  refine ⟨fun lane s q hs hq => ⟨fun hreached => ?_, fun hruns => ?_⟩,
    fun s hs => ⟨fun d hd hreached => ⟨?_, ?_⟩, fun d hd hahead => ⟨?_, ?_⟩, fun hd => ⟨?_, restrictedMode_none hd⟩⟩⟩
  · rw [exec_leaseExpiry hs hq, if_pos (leaseReached_iff.2 hreached)]
    exact ⟨fun h => by rw [voidWaiting_waiting hq h], fun h => by rw [voidWaiting_issuing hq h]⟩
  · have hnot : ¬ q.leaseReached s.clk = true := fun h => absurd (leaseReached_iff.1 h) (Nat.not_le_of_lt hruns)
    rw [exec_leaseExpiry hs hq, if_neg hnot]
  · rw [exec_deadlineExpiry hs, deadlineReached_some hd, if_pos (decide_eq_true hreached)]
  · exact (restrictedMode_some (s := s.withFlt { s.flt with noted := true }) hd).trans (decide_eq_true hreached)
  · rw [exec_deadlineExpiry hs, deadlineReached_some hd, if_neg (by simpa using hahead)]
  · exact (restrictedMode_some hd).trans (decide_eq_false (Nat.not_le_of_lt hahead))
  · rw [exec_deadlineExpiry hs, deadlineReached_none hd]
    rfl

/-! ### COUNTERSIGN (R96) -/

theorem quoteTag_eq (q : Quote) : quoteTag q = (if q.review then 1 else 0) + (if q.threshold then 2 else 0) := by
  unfold quoteTag
  cases q.review <;> cases q.threshold <;> rfl

theorem setQuote_counter {lane : Nat} {q : Option Quote} {s : State} (h : lane ≠ 0) :
    setQuote lane q s = s.withQtb { s.qtb with quotes := put s.qtb.quotes (lane - 1) q } := if_neg h

theorem exec_countersign_answered {lane tag counter : Nat} {s g t : State} {a : Answer}
    (h : taken (.countersign lane tag counter) s = some g) (hb : countersignBody counter g = answered a t) :
    exec (.countersign lane tag counter) s = .next (finish a t) :=
  serve_answered h hb

theorem countersignBody_held {counter : Nat} {s : State} {q : Quote} (hlow : 1 ≤ counter) (hhigh : counter ≤ 8)
    (hq : s.quoteAt counter = some q) (hheld : q.state = .held) :
    countersignBody counter s =
      answered (Answer.ok (fieldBytes [(5, q.meter), (4, q.accepted), (1, quoteTag q), (3, q.leaseMinute), (1, q.leaseSecond)]))
        (setQuote counter (some { q with state := .opened }) s) := by
  rw [countersignBody, if_neg (by omega)]
  simp only [hq, if_pos hheld]

theorem countersignBody_notHeld {counter : Nat} {s : State} (hlow : 1 ≤ counter) (hhigh : counter ≤ 8)
    (h : ∀ q, s.quoteAt counter = some q → q.state ≠ .held) : countersignBody counter s = answered (Answer.bare .noQuote) s := by
  rw [countersignBody, if_neg (by omega)]
  cases hq : s.quoteAt counter with
  | none => rfl
  | some q => exact if_neg (h q hq)

/-! ### SET COUNTERSIGN (R92, R95) -/

theorem setCountersignBody_written {period threshold : Nat} {s u : State} (hlock : s.fmn.configLock = false)
    (hperiod : period ≤ 1023) (hthreshold : threshold ≤ 10000000) (hw : drawWrite s = (false, u)) :
    setCountersignBody period threshold s =
      answered (Answer.ok (fieldBytes [(2, period), (2, effectivePeriod period)]))
        (u.withQtb { u.qtb with
          period := period, threshold := threshold
          review := reviewUnder (effectivePeriod s.qtb.period) (effectivePeriod period) s.qtb.review }) := by
  have hrange : ¬ (1023 < period ∨ Config.maxCents < threshold) := by
    simp only [Config.maxCents]
    omega
  have hqtb : s.qtb = u.qtb := by
    rw [drawWrite_frame hw]
    rfl
  simp only [setCountersignBody, hlock, Bool.false_eq_true, if_false, if_neg hrange, retained_made _ _ hw, hqtb]

/-- The three rules by which new review figures act, taken together, fix the review counter. -/
theorem eq_reviewUnder {old new : Nat} {present review : Review}
    (hcounting : ∀ v, present = .counting v → review = if 0 < new ∧ new ≤ v then .pending else .counting v)
    (hpending : present = .pending → review = if new = 0 then .counting old else .pending)
    (hstopped : ∀ k, present = .stopped k → review = .stopped k) : review = reviewUnder old new present := by
  cases present with
  | counting v => exact hcounting v rfl
  | pending => exact hpending rfl
  | stopped k => exact hstopped k rfl

/-- Settles O36: COUNTERSIGN by its operand and the entry it names, SET COUNTERSIGN by its ranges and the state of the review counter. -/
theorem countersignRules : Obligations.CountersignRules := by
  refine ⟨fun lane tag counter s g ht => ⟨fun hout => exec_countersign_answered ht (if_pos hout), fun hlow hhigh =>
      ⟨fun q hq hheld => ?_, fun hnot => exec_countersign_answered ht (countersignBody_notHeld hlow hhigh hnot)⟩⟩,
    fun lane tag period threshold s g u ht hlock =>
      ⟨fun hout => ?_, fun hperiod hthreshold hw old new review hold hnew hcounting hpending hstopped => ?_⟩⟩
  · rw [← quoteTag_eq, ← setQuote_counter (by omega)]
    exact exec_countersign_answered ht (countersignBody_held hlow hhigh hq hheld)
  · refine exec_configWork_answered (.inl rfl) ht ?_
    simp only [configWork, setCountersignBody, hlock, Bool.false_eq_true, if_false, refuse]
    exact if_pos hout
  · subst hold hnew
    rw [eq_reviewUnder hcounting hpending hstopped]
    exact exec_configWork_answered (.inl rfl) ht (setCountersignBody_written hlock hperiod hthreshold hw)

end Sys2Proof.Machine.Quotes

/-! ## ISSUE and its commit: O32 -/

namespace Sys2Proof.Machine.Quotes

open Sys2Proof Sys2Proof.Machine Sys2Proof.Machine.KeysAndLock

/-! ### The lane's entry -/

theorem quoteAt_some_lane {lane : Nat} {s : State} {q : Quote} (h : s.quoteAt lane = some q) : lane ≠ 0 ∧ lane ≤ 8 := by
  refine ⟨fun h0 => ?_, Nat.le_of_not_lt fun h8 => ?_⟩
  · simp [State.quoteAt, h0] at h
  · have hpast : s.qtb.quotes[lane - 1]? = none := Vector.getElem?_eq_none (by omega)
    simp [State.quoteAt, pick, hpast] at h

theorem quoteAt_setQuote_same {lane : Nat} (q : Option Quote) (s : State) (h0 : lane ≠ 0) (h8 : lane ≤ 8) :
    (setQuote lane q s).quoteAt lane = q := by
  simp only [setQuote_counter h0, State.quoteAt, if_neg h0, State.withQtb_qtb]
  exact pick_put_same _ _ (by omega)

theorem quoteAt_setQuote_other {lane k : Nat} (q : Option Quote) (s : State) (h0 : lane ≠ 0) (hk : k ≠ lane) :
    (setQuote lane q s).quoteAt k = s.quoteAt k := by
  simp only [setQuote_counter h0, State.quoteAt, State.withQtb_qtb]
  split
  · rfl
  · exact pick_put_other _ _ (by omega)

/-- Of the quote table, an entry written changes the entries alone. -/
theorem setQuote_qtb (lane : Nat) (q : Option Quote) (s : State) :
    (setQuote lane q s).qtb = { s.qtb with quotes := (setQuote lane q s).qtb.quotes } := by
  unfold setQuote
  split <;> rfl

/-! ### The review counter counts an issue (R92, R94) -/

theorem effectivePeriod_eq (p : Nat) : effectivePeriod p = if p = 0 then 0 else max 8 p := by
  unfold effectivePeriod
  split
  · rfl
  · split <;> omega

theorem countIssue_eq (q : Qtb) : countIssue q = { q with review := (countIssue q).review } := by
  unfold countIssue
  split
  · split <;> rfl
  · rfl

theorem countIssue_counting {q : Qtb} {v : Nat} (h : q.review = .counting v) :
    (countIssue q).review =
      if q.period = 0 then .counting v else if v + 1 = max 8 q.period then .pending else .counting (v + 1) := by
  simp only [countIssue, h, effectivePeriod_eq]
  by_cases hp : q.period = 0
  · simp [hp, h]
  · rw [if_pos (by rw [if_neg hp]; omega), if_neg hp, if_neg hp]

theorem countIssue_notCounting {q : Qtb} (h : ∀ v, q.review ≠ .counting v) : (countIssue q).review = q.review := by
  unfold countIssue
  split
  · rename_i v hv
    exact absurd hv (h v)
  · rfl

theorem releaseReview_untagged {q : Quote} (s : State) (h : q.review = false) : releaseReview q s = s := by
  simp [releaseReview, h]

/-- A quote that carried the review tag restarts the counter at 0 to 7 (R94). -/
theorem releaseReview_tagged {q : Quote} (s : State) (h : q.review = true) :
    ∃ v, v ≤ 7 ∧ (releaseReview q s).qtb.review = .counting v := by
  refine ⟨(Config.lfsr s.freeReads).toNat % 8, by omega, ?_⟩
  simp [releaseReview, h, restartReview]

/-- The review counter's restart leaves the table's entries, the period and the threshold. -/
theorem releaseReview_qtb (q : Quote) (s : State) :
    (releaseReview q s).qtb = { s.qtb with review := (releaseReview q s).qtb.review } := by
  unfold releaseReview restartReview
  split <;> rfl

/-! ### What follows a commit step (R83) -/

theorem closeSale_eq (lane : Nat) (q : Quote) (s : State) :
    closeSale lane q s = (s.withQtb (closeSale lane q s).qtb).withFreeReads (closeSale lane q s).freeReads := by
  unfold closeSale
  rw [releaseReview_eq, setQuote_eq]
  rfl

theorem closeSale_ast (lane : Nat) (q : Quote) (s : State) : (closeSale lane q s).ast = s.ast := by
  rw [closeSale_eq]
  rfl

theorem closeSale_flt (lane : Nat) (q : Quote) (s : State) : (closeSale lane q s).flt = s.flt := by
  rw [closeSale_eq]
  rfl

/-- Of the quote table, closing a sale changes the lane's entry and the review counter. -/
theorem closeSale_qtb (lane : Nat) (q : Quote) (s : State) :
    (closeSale lane q s).qtb =
      { s.qtb with quotes := (setQuote lane none s).qtb.quotes, review := (closeSale lane q s).qtb.review } := by
  unfold closeSale
  rw [releaseReview_qtb, State.withQtb_qtb, countIssue_eq, setQuote_qtb]

theorem closeSale_quoteAt (lane k : Nat) (q : Quote) (s : State) :
    (closeSale lane q s).quoteAt k = (setQuote lane none s).quoteAt k := by
  have hquotes := congrArg Qtb.quotes (closeSale_qtb lane q s)
  simp only [State.quoteAt, hquotes]

theorem closeSale_untagged {lane : Nat} {q : Quote} (s : State) (h : q.review = false) :
    closeSale lane q s = s.withQtb (countIssue (setQuote lane none s).qtb) := by
  unfold closeSale
  rw [releaseReview_untagged _ h, setQuote_eq]
  rfl

theorem closeSale_counting {lane v : Nat} {q : Quote} {s : State} (h : q.review = false) (hv : s.qtb.review = .counting v) :
    (closeSale lane q s).qtb.review =
      if s.qtb.period = 0 then .counting v else if v + 1 = max 8 s.qtb.period then .pending else .counting (v + 1) := by
  rw [closeSale_untagged s h, State.withQtb_qtb, setQuote_qtb]
  exact countIssue_counting hv

theorem closeSale_notCounting {lane : Nat} {q : Quote} {s : State} (h : q.review = false) (hv : ∀ v, s.qtb.review ≠ .counting v) :
    (closeSale lane q s).qtb.review = s.qtb.review := by
  rw [closeSale_untagged s h, State.withQtb_qtb, setQuote_qtb]
  exact countIssue_notCounting hv

theorem closeSale_tagged {lane : Nat} {q : Quote} (s : State) (h : q.review = true) :
    ∃ v, v ≤ 7 ∧ (closeSale lane q s).qtb.review = .counting v :=
  releaseReview_tagged _ h

/-! ### The token set (R97, R100, R106) -/

theorem firstTid_eq (minute : Nat) (last : Option Nat) : firstTid minute last = (last.map fun i => max minute (i + 1)).getD minute := by
  cases last <;> rfl

/-- A set formed from sound slots: two uses for each key derived, one without a key change and two with it, and one for each token. -/
theorem formSet_sound {s : State} {zone meter tid n : Nat} {key : KeyRef} {change : Option KeyRef} {set : TokenSet}
    {base toKey fromKey : Block} (hbase : s.sound key.slot base) (hto : toKey = meterKey base meter key.rev (s.zoneAt zone).group)
    (hfrom : change = none ∧ fromKey = toKey ∧ n = 2 ∨
      ∃ old base', change = some old ∧ s.sound old.slot base' ∧ fromKey = meterKey base' meter old.rev (s.zoneAt zone).group ∧ n = 4)
    (hcalm : s.calm (n + (set.parts toKey fromKey).length)) :
    formSet zone meter key change tid set s =
      .ok (setTokens tid (set.parts toKey fromKey)) (s.used (n + (set.parts toKey fromKey).length)) := by
  obtain ⟨rfl, rfl, rfl⟩ | ⟨old, base', rfl, hold, rfl, rfl⟩ := hfrom <;> subst hto
  · exact formSet_plain hbase hcalm
  · exact formSet_change hbase hold hcalm

/-! ### From ISSUING to the reply (R80 to R83) -/

/-- An ISSUING quote whose identifiers fit and whose token set is formed goes on to its commit. -/
theorem proceedIssue_formed {lane first : Nat} {q : Quote} {g i t : State} {tokens : List Block}
    (hi : i = setQuote lane (some { q with state := .issuing }) g) (hfirst : first = firstTid i.clk.minute (i.record q.shadow).lastTid)
    (hminute : i.clk.minute ≠ 16777215) (hlast : first + q.count - 1 ≤ 16777215)
    (hform : formSet (i.record q.shadow).zone q.meter q.key q.change first q.tokenSet i = .ok tokens t) :
    proceedIssue lane q g = commitIssue lane q first tokens t := by
  subst hi hfirst
  have hfits : ¬ ((setQuote lane (some { q with state := .issuing }) g).clk.minute = Config.lastMinute ∨
      Config.lastMinute < firstTid _ _ + q.count - 1) := not_or.2 ⟨hminute, Nat.not_lt.2 hlast⟩
  simp only [proceedIssue, if_neg hfits, hform]

/-- Both writes of an issue made: the shadow version is complete and the commit step taken. -/
theorem commitIssue_made {lane tid : Nat} {q : Quote} {tokens : List Block} {s u v : State} (hu : drawWrite s = (false, u))
    (hv : drawWrite (writeSlot q.shadow (q.complete tid (u.record q.shadow)).sealed u) = (false, v)) :
    commitIssue lane q tid tokens s = answered (Answer.ok (issuePayload q tid tokens)) (closeSale lane q (commitStep q v)) := by
  rw [commitIssue, retained_made _ _ hu, retained_made _ _ hv]

/-- What an issue's uses, two writes and commit step make of the state `i` in which it stands ISSUING: `r` is the completed version, `n`
the cipher uses made and `e` what the outside has yet to do (R82). -/
def sold (q : Quote) (r : Record) (n : Nat) (e : Env) (i : State) : State :=
  ((((i.withAst ⟨Store.write i.ast.slots q.shadow r, q.live :: i.ast.free⟩).withDir (i.dir.swap q.meter q.shadow)).withFlt
    { i.flt with
      balance := i.flt.balance - q.accepted, reserved := i.flt.reserved - q.accepted, totals := i.flt.totals.add q }).withTcu
    { i.tcu with uses := i.tcu.uses + n }).withEnv e

theorem commitStep_written {q : Quote} {r : Record} {n : Nat} {i u v : State} (hu : drawWrite (i.used n) = (false, u))
    (hv : drawWrite (writeSlot q.shadow r u) = (false, v)) : commitStep q v = sold q r n v.env i := by
  rw [drawWrite_frame hv, drawWrite_frame hu]
  rfl

theorem sold_qtb (q : Quote) (r : Record) (n : Nat) (e : Env) (i : State) : (sold q r n e i).qtb = i.qtb := rfl
theorem sold_freeReads (q : Quote) (r : Record) (n : Nat) (e : Env) (i : State) : (sold q r n e i).freeReads = i.freeReads := rfl

/-- A sale closed after its commit changes six blocks and the count of free values read, and nothing else (R82, R83). -/
theorem closeSale_sold (lane : Nat) (q : Quote) (r : Record) (n : Nat) (e : Env) (i : State) :
    closeSale lane q (sold q r n e i) =
      ((((((i.withQtb (closeSale lane q (sold q r n e i)).qtb).withAst (closeSale lane q (sold q r n e i)).ast).withDir
        (i.dir.swap q.meter q.shadow)).withFlt (closeSale lane q (sold q r n e i)).flt).withTcu
        { i.tcu with uses := i.tcu.uses + n }).withEnv e).withFreeReads (closeSale lane q (sold q r n e i)).freeReads := by
  rw [closeSale_ast, closeSale_flt]
  refine (closeSale_eq lane q _).trans ?_
  generalize (closeSale lane q (sold q r n e i)).qtb = closed
  generalize (closeSale lane q (sold q r n e i)).freeReads = reads
  rfl

/-- ISSUE of an OPEN quote, its token set formed and its two writes made. -/
theorem issueBody_committed {lane first : Nat} {q : Quote} {g i t u v : State} {tokens : List Block} (hq : g.quoteAt lane = some q)
    (hopened : q.state = .opened) (hpassed : g.tcu.passed = true) (hi : i = setQuote lane (some { q with state := .issuing }) g)
    (hfirst : first = firstTid i.clk.minute (i.record q.shadow).lastTid) (hminute : i.clk.minute ≠ 16777215)
    (hlast : first + q.count - 1 ≤ 16777215)
    (hform : formSet (i.record q.shadow).zone q.meter q.key q.change first q.tokenSet i = .ok tokens t)
    (hu : drawWrite t = (false, u))
    (hv : drawWrite (writeSlot q.shadow (q.complete first (u.record q.shadow)).sealed u) = (false, v)) :
    issueBody lane g = answered (Answer.ok (issuePayload q first tokens)) (closeSale lane q (commitStep q v)) := by
  rw [issueBody_opened hq hopened hpassed, proceedIssue_formed hi hfirst hminute hlast hform, commitIssue_made hu hv]

/-- Settles O32: the token set is formed, the two writes are made, and the sale closes on the state the commit step leaves. -/
theorem issueCommits : Obligations.IssueCommits := by
  intro lane tag first s g u v q r base toKey fromKey parts n ht hq hopened hr hfirst hminute hlast hbase hto hfrom hparts hcalm hu hv
  obtain ⟨h0, h8⟩ := quoteAt_some_lane hq
  subst hr hparts
  generalize hissuing : setQuote lane (some { q with state := .issuing }) g = i at hu
  obtain ⟨quotes, hi⟩ : ∃ quotes, i = g.withQtb { g.qtb with quotes := quotes } := ⟨_, hissuing ▸ setQuote_counter h0⟩
  have hform : formSet (i.record q.shadow).zone q.meter q.key q.change first q.tokenSet i =
      .ok (setTokens first (q.tokenSet.parts toKey fromKey)) (i.used (n + (q.tokenSet.parts toKey fromKey).length)) := by
    subst hi
    exact formSet_sound hbase hto hfrom hcalm
  have hrecord : g.record q.shadow = u.record q.shadow := by
    rw [drawWrite_frame hu, hi]
    rfl
  have hbody := issueBody_committed hq hopened hcalm.1 hissuing.symm (by rw [hfirst, ← firstTid_eq, hi]; rfl)
    (by rw [hi]; exact hminute) hlast hform hu (hrecord ▸ hv)
  rw [commitStep_written hu hv] at hbody
  have hqtb : i.qtb = { g.qtb with quotes := quotes } := congrArg State.qtb hi
  refine ⟨_, exec_issue_answered ht hbody, ?_, fun k _ hk => ?_, ?_, ?_, ?_, fun hno w hw => ?_, fun hno hnot => ?_,
    closeSale_tagged _, ?_, ?_, fun hno => ?_, ?_⟩
  · rw [closeSale_quoteAt, quoteAt_setQuote_same _ _ h0 h8]
  · rw [closeSale_quoteAt, quoteAt_setQuote_other _ _ h0 hk, ← quoteAt_setQuote_other _ g h0 hk, hissuing]
    rfl
  · rw [closeSale_ast, hi]
    rfl
  · rw [closeSale_ast, hi]
    rfl
  · rw [closeSale_flt, hi]
    rfl
  · rw [closeSale_counting (v := w) hno (by rw [sold_qtb, hqtb, hw]), sold_qtb, hqtb]
  · rw [closeSale_notCounting hno (by rwa [sold_qtb, hqtb]), sold_qtb, hqtb]
  · rw [closeSale_qtb, sold_qtb, hqtb]
  · rw [closeSale_qtb, sold_qtb, hqtb]
  · rw [closeSale_untagged _ hno, State.withQtb_freeReads, sold_freeReads, hi, State.withQtb_freeReads]
  · refine (closeSale_sold ..).trans ?_
    generalize closeSale lane q _ = w
    rw [hi, Nat.add_assoc]
    rfl

end Sys2Proof.Machine.Quotes

/-! ## What the float's law rests on, and what voids leave of it -/

namespace Sys2Proof.Machine.VendingFloat

open Sys2Proof Sys2Proof.Machine Sys2Proof.Machine.Quotes

/-! ### The sum of the accepted tenders (R115) -/

/-- The accepted tender of an entry of the quote table, 0 for an empty one. -/
def acceptedOf (q : Option Quote) : Nat := (q.map (·.accepted)).getD 0

@[simp] theorem acceptedOf_none : acceptedOf none = 0 := rfl
@[simp] theorem acceptedOf_some (q : Quote) : acceptedOf (some q) = q.accepted := rfl

theorem acceptedSum_eq (s : State) : s.acceptedSum = (counterLanes.map fun k => acceptedOf (s.quoteAt k)).sum := rfl

theorem mem_counterLanes {k : Nat} : k ∈ counterLanes ↔ k ≠ 0 ∧ k ≤ 8 := by
  simp only [counterLanes, List.mem_cons, List.not_mem_nil, or_false]
  omega

/-- The sum is one lane's accepted tender and those of the other lanes. -/
theorem acceptedSum_split {lane : Nat} (s : State) (h : lane ∈ counterLanes) :
    s.acceptedSum = acceptedOf (s.quoteAt lane) + ((counterLanes.erase lane).map fun k => acceptedOf (s.quoteAt k)).sum :=
  (acceptedSum_eq s).trans (((List.perm_cons_erase h).map fun k => acceptedOf (s.quoteAt k)).sum_nat.trans List.sum_cons)

/-- An entry written changes the sum by what it changes that lane's accepted tender. -/
theorem acceptedSum_setQuote {lane : Nat} (q : Option Quote) (s : State) (h0 : lane ≠ 0) (h8 : lane ≤ 8) :
    (setQuote lane q s).acceptedSum + acceptedOf (s.quoteAt lane) = s.acceptedSum + acceptedOf q := by
  have hmem : lane ∈ counterLanes := mem_counterLanes.2 ⟨h0, h8⟩
  have hrest : ((counterLanes.erase lane).map fun k => acceptedOf ((setQuote lane q s).quoteAt k)) =
      (counterLanes.erase lane).map fun k => acceptedOf (s.quoteAt k) := by
    refine List.map_congr_left fun k hk => ?_
    rw [quoteAt_setQuote_other _ _ h0 ((List.Nodup.mem_erase_iff (by decide)).1 hk).1]
  have hafter := acceptedSum_split (setQuote lane q s) hmem
  have hbefore := acceptedSum_split s hmem
  rw [hrest, quoteAt_setQuote_same q s h0 h8] at hafter
  omega

/-- The law speaks of the float and of the table's entries alone. -/
theorem floatLaw_of_eq {s t : State} (hflt : t.flt = s.flt) (hquotes : t.qtb.quotes = s.qtb.quotes) (h : s.floatLaw) : t.floatLaw := by
  have hsum : t.acceptedSum = s.acceptedSum := by simp only [State.acceptedSum, State.quoteAt, hquotes]
  simpa only [State.floatLaw, hflt, hsum] using h

/-- An entry written and the float with it, reserved going the way of the lane's accepted tender. -/
theorem floatLaw_setQuote {lane : Nat} {q : Option Quote} {s : State} {f : Flt} (h0 : lane ≠ 0) (h8 : lane ≤ 8) (h : s.floatLaw)
    (hreserved : f.reserved + acceptedOf (s.quoteAt lane) = s.flt.reserved + acceptedOf q) (hbalance : f.reserved ≤ f.balance)
    (hceiling : f.balance ≤ f.ceiling) : (setQuote lane q (s.withFlt f)).floatLaw := by
  have hsum : (setQuote lane q (s.withFlt f)).acceptedSum + acceptedOf (s.quoteAt lane) = s.acceptedSum + acceptedOf q :=
    acceptedSum_setQuote q (s.withFlt f) h0 h8
  have hflt : (setQuote lane q (s.withFlt f)).flt = f := by rw [setQuote_eq]; rfl
  obtain ⟨hlaw, -, -⟩ := h
  refine ⟨?_, ?_, ?_⟩
  all_goals rw [hflt]; omega

/-- A lane's accepted tender is part of what is reserved. -/
theorem accepted_le_reserved {lane : Nat} {q : Quote} {s : State} (h : s.floatLaw) (hq : s.quoteAt lane = some q) :
    q.accepted ≤ s.flt.reserved := by
  obtain ⟨h0, h8⟩ := quoteAt_some_lane hq
  have hsum := acceptedSum_setQuote none s h0 h8
  rw [hq] at hsum
  simp only [acceptedOf_some, acceptedOf_none] at hsum
  obtain ⟨hlaw, -, -⟩ := h
  omega

/-- An entry whose accepted tender stays may be written over another. -/
theorem setQuote_floatLaw {lane : Nat} {q q' : Quote} {s : State} (h : s.floatLaw) (hq : s.quoteAt lane = some q)
    (haccepted : q'.accepted = q.accepted) : (setQuote lane (some q') s).floatLaw := by
  obtain ⟨h0, h8⟩ := quoteAt_some_lane hq
  have ⟨_, hbalance, hceiling⟩ := h
  refine floatLaw_setQuote (f := s.flt) h0 h8 h ?_ hbalance hceiling
  rw [hq, acceptedOf_some, acceptedOf_some, haccepted]

/-! ### Voids (R76, R118) -/

theorem voidQuote_flt {lane : Nat} {q : Quote} {s : State} (hq : s.quoteAt lane = some q) :
    (voidQuote lane s).flt = { s.flt with reserved := s.flt.reserved - q.accepted } := by
  simp only [voidQuote, hq]
  rw [releaseReview_eq, setQuote_eq]
  rfl

theorem voidQuote_quotes {lane : Nat} {q : Quote} {s : State} (hq : s.quoteAt lane = some q) :
    (voidQuote lane s).qtb.quotes = (setQuote lane none s).qtb.quotes := by
  simp only [voidQuote, hq]
  rw [releaseReview_qtb]
  rfl

theorem voidQuote_none {lane : Nat} {s : State} (hq : s.quoteAt lane = none) : voidQuote lane s = s := by
  simp only [voidQuote, hq]

/-- A void takes the lane's accepted tender from the sum and from reserved alike. -/
theorem voidQuote_floatLaw {s : State} (lane : Nat) (h : s.floatLaw) : (voidQuote lane s).floatLaw := by
  cases hq : s.quoteAt lane with
  | none => rwa [voidQuote_none hq]
  | some q =>
    obtain ⟨h0, h8⟩ := quoteAt_some_lane hq
    have haccepted := accepted_le_reserved h hq
    have ⟨_, hbalance, hceiling⟩ := h
    refine floatLaw_of_eq ?_ ?_ (floatLaw_setQuote (q := none)
      (f := { s.flt with reserved := s.flt.reserved - q.accepted }) h0 h8 h ?_ ?_ hceiling)
    · rw [voidQuote_flt hq, setQuote_eq]
      rfl
    · rw [voidQuote_quotes hq, setQuote_counter h0, setQuote_counter h0]
      rfl
    · rw [hq, acceptedOf_some, acceptedOf_none]
      dsimp only
      omega
    · dsimp only
      omega

/-- Of the float and the quote table, `t` differs from `s` by voids of quotes not ISSUING at most. -/
structure VoidsAtMost (s t : State) : Prop where
  law : s.floatLaw → t.floatLaw
  reserved_le : t.flt.reserved ≤ s.flt.reserved
  balance_eq : t.flt.balance = s.flt.balance
  empty : ∀ k, s.quoteAt k = none → t.quoteAt k = none
  issuing : ∀ k q, s.quoteAt k = some q → q.state = .issuing → t.quoteAt k = some q

theorem VoidsAtMost.trans {s t u : State} (h : VoidsAtMost s t) (k : VoidsAtMost t u) : VoidsAtMost s u where
  law hs := k.law (h.law hs)
  reserved_le := Nat.le_trans k.reserved_le h.reserved_le
  balance_eq := k.balance_eq.trans h.balance_eq
  empty n hn := k.empty n (h.empty n hn)
  issuing n q hq hi := k.issuing n q (h.issuing n q hq hi) hi

/-- Work that leaves the float and the table's entries alone. -/
theorem VoidsAtMost.of_eq {s t : State} (hflt : t.flt = s.flt) (hquotes : t.qtb.quotes = s.qtb.quotes) : VoidsAtMost s t where
  law := floatLaw_of_eq hflt hquotes
  reserved_le := Nat.le_of_eq (congrArg Flt.reserved hflt)
  balance_eq := congrArg Flt.balance hflt
  empty k hk := by simpa only [State.quoteAt, hquotes] using hk
  issuing k q hk _ := by simpa only [State.quoteAt, hquotes] using hk

theorem VoidsAtMost.refl (s : State) : VoidsAtMost s s := .of_eq rfl rfl

theorem VoidsAtMost.withEnv (s : State) (v : Env) : VoidsAtMost s (s.withEnv v) := .of_eq rfl rfl
theorem VoidsAtMost.withStartUp (s : State) (v : StartUp) : VoidsAtMost s (s.withStartUp v) := .of_eq rfl rfl
theorem VoidsAtMost.withTamper (s : State) (v : Bool) : VoidsAtMost s (s.withTamper v) := .of_eq rfl rfl
theorem VoidsAtMost.withOlk (s : State) (v : Olk) : VoidsAtMost s (s.withOlk v) := .of_eq rfl rfl
theorem VoidsAtMost.withLqa (s : State) (v : Lqa) : VoidsAtMost s (s.withLqa v) := .of_eq rfl rfl
theorem VoidsAtMost.withServing (s : State) (v : Option Serving) : VoidsAtMost s (s.withServing v) := .of_eq rfl rfl
theorem VoidsAtMost.withAst (s : State) (v : Ast) : VoidsAtMost s (s.withAst v) := .of_eq rfl rfl
theorem VoidsAtMost.withDir (s : State) (v : Dir) : VoidsAtMost s (s.withDir v) := .of_eq rfl rfl
theorem VoidsAtMost.withZks (s : State) (v : Zks) : VoidsAtMost s (s.withZks v) := .of_eq rfl rfl
theorem VoidsAtMost.withTcu (s : State) (v : Tcu) : VoidsAtMost s (s.withTcu v) := .of_eq rfl rfl
theorem VoidsAtMost.withClk (s : State) (v : Clk) : VoidsAtMost s (s.withClk v) := .of_eq rfl rfl
theorem VoidsAtMost.withFmn (s : State) (v : Fmn) : VoidsAtMost s (s.withFmn v) := .of_eq rfl rfl

theorem VoidsAtMost.ite {s x y : State} {p : Prop} [Decidable p] (hx : VoidsAtMost s x) (hy : VoidsAtMost s y) :
    VoidsAtMost s (if p then x else y) := by
  split
  · exact hx
  · exact hy

theorem setNote_voidsAtMost (lane : Nat) (n : Note) (s : State) : VoidsAtMost s (setNote lane n s) := by
  rw [setNote_eq]
  exact .of_eq rfl rfl

/-- The entries of the other lanes stand through a void. -/
theorem voidQuote_quoteAt {lane : Nat} {q : Quote} {s : State} (hq : s.quoteAt lane = some q) (k : Nat) :
    (voidQuote lane s).quoteAt k = if k = lane then none else s.quoteAt k := by
  obtain ⟨h0, h8⟩ := quoteAt_some_lane hq
  have hentry : (voidQuote lane s).quoteAt k = (setQuote lane none s).quoteAt k := by
    simp only [State.quoteAt, voidQuote_quotes hq]
  rw [hentry]
  split
  · subst k
    exact quoteAt_setQuote_same _ _ h0 h8
  · exact quoteAt_setQuote_other _ _ h0 ‹_›

theorem voidQuote_voidsAtMost {lane : Nat} {q : Quote} {s : State} (hq : s.quoteAt lane = some q) (hwaits : q.state ≠ .issuing) :
    VoidsAtMost s (voidQuote lane s) where
  law := voidQuote_floatLaw lane
  reserved_le := by rw [voidQuote_flt hq]; exact Nat.sub_le _ _
  balance_eq := by rw [voidQuote_flt hq]
  empty k hk := by rw [voidQuote_quoteAt hq, hk, ite_self]
  issuing k p hp hi := by
    have hne : k ≠ lane := by
      rintro rfl
      rw [hq] at hp
      cases hp
      exact hwaits hi
    rw [voidQuote_quoteAt hq, if_neg hne, hp]

theorem voidWaiting_voidsAtMost (n : Note) (lane : Nat) (s : State) : VoidsAtMost s (voidWaiting n lane s) := by
  unfold voidWaiting
  split
  case h_1 => exact .refl s
  case h_2 q hq =>
    split
    case isTrue => exact .refl s
    case isFalse hwaits => exact (voidQuote_voidsAtMost hq hwaits).trans (setNote_voidsAtMost lane n _)

theorem foldl_voidsAtMost {α : Type} {f : State → α → State} (hf : ∀ s a, VoidsAtMost s (f s a)) (as : List α) (s : State) :
    VoidsAtMost s (as.foldl f s) := by
  induction as generalizing s with
  | nil => exact .refl s
  | cons a as ih => exact (hf s a).trans (ih _)

theorem voidAll_voidsAtMost (n : Note) (s : State) : VoidsAtMost s (voidAll n s) :=
  foldl_voidsAtMost (fun t k => voidWaiting_voidsAtMost n k t) counterLanes s

theorem strike_voidsAtMost (n : Note) (s : State) : VoidsAtMost s (strike n s) := (voidAll_voidsAtMost n s).trans (.withServing _ _)

/-! ### Writes, faults and the events inside a request -/

theorem drawWrite_voidsAtMost (s : State) : VoidsAtMost s (drawWrite s).2 := by
  rw [drawWrite_eq]
  exact .of_eq rfl rfl

theorem raise_voidsAtMost (k : FaultKind) (s : State) : VoidsAtMost s (raise k s) := .of_eq rfl rfl

theorem raiseBeside_voidsAtMost (k : FaultKind) (s : State) : VoidsAtMost s (raiseBeside k s) := by
  rw [raiseBeside_eq]
  exact .of_eq rfl rfl

/-- A retained write, read by the state it leaves: voids at most, if what is made and what a failure leaves are. -/
theorem retained_voidsAtMost {α : Type} {left : α → State} {s : State} {made failed : State → α}
    (hmade : ∀ t, VoidsAtMost t (left (made t))) (hfailed : ∀ t, VoidsAtMost t (left (failed t))) :
    VoidsAtMost s (left (retained s made failed)) := by
  obtain ⟨v, h | h⟩ := retained_cases s made failed
  · rw [h]
    exact (VoidsAtMost.withEnv s v).trans (hmade _)
  · rw [h]
    exact ((VoidsAtMost.withEnv s v).trans (raise_voidsAtMost .storeWrite _)).trans (hfailed _)

theorem zeroiseWrite_voidsAtMost (s : State) : VoidsAtMost s (zeroiseWrite s).2 :=
  retained_voidsAtMost (fun _ => .of_eq rfl rfl) .refl

theorem zeroise_voidsAtMost (s : State) : VoidsAtMost s (zeroise s).2 :=
  ((VoidsAtMost.withFmn s _).trans (strike_voidsAtMost .voided _)).trans (zeroiseWrite_voidsAtMost _)

theorem assertTamper_voidsAtMost (s : State) : VoidsAtMost s (assertTamper s) :=
  .ite (.refl s) (.ite ((VoidsAtMost.withTamper s true).trans (zeroise_voidsAtMost _)) (.withTamper s true))

theorem linkBreakReset_voidsAtMost (s : State) : VoidsAtMost s (linkBreakReset s) :=
  ((((VoidsAtMost.withOlk s _).trans (.withServing _ _)).trans (.withLqa _ _)).trans (strike_voidsAtMost .none _)).trans (.withLqa _ _)

theorem takeBreak_voidsAtMost (s : State) : VoidsAtMost s (takeBreak s) := .ite (.refl s) (linkBreakReset_voidsAtMost s)

theorem takeEvent_voidsAtMost (e : MidEvent) (s : State) : VoidsAtMost s (takeEvent e s) := by
  cases e with
  | tamper => exact assertTamper_voidsAtMost s
  | linkBreak => exact takeBreak_voidsAtMost s
  | fault k => exact raise_voidsAtMost k s

theorem takeEvents_voidsAtMost : ∀ (events : List (Nat × MidEvent)) (s : State), VoidsAtMost s (takeEvents events s)
  | [], _ => .of_eq rfl rfl
  | (0, e) :: rest, s => (takeEvent_voidsAtMost e s).trans (takeEvents_voidsAtMost rest _)
  | (_ + 1, _) :: _, _ => .of_eq rfl rfl

theorem midEvent_voidsAtMost (s : State) : VoidsAtMost s (midEvent s) := takeEvents_voidsAtMost _ s

end Sys2Proof.Machine.VendingFloat

/-! ## The float under cipher uses, start-up and the link -/

namespace Sys2Proof.Machine.VendingFloat

open Sys2Proof Sys2Proof.Machine

/-! ### Cipher uses (R43 to R45) -/

theorem selfTest_voidsAtMost (s : State) : VoidsAtMost s (selfTest s).2 := by
  have hdraw : VoidsAtMost s (drawTest s).2 := by
    unfold drawTest
    split
    · exact .refl s
    · exact .withEnv s _
  unfold selfTest
  split <;> rename_i t ht <;> rw [ht] at hdraw
  · exact hdraw.trans (.withTcu t _)
  · exact (hdraw.trans (.withTcu t _)).trans (raise_voidsAtMost _ _)

/-- The state that work under the cipher leaves, whichever way it ends. -/
def resState {α : Type} : Res α → State
  | .ok _ t => t
  | .no _ t => t

theorem andThen_voidsAtMost {α β : Type} {s : State} {r : Res α} {f : α → State → Res β} (hr : VoidsAtMost s (resState r))
    (hf : ∀ a t, VoidsAtMost t (resState (f a t))) : VoidsAtMost s (resState (r.andThen f)) := by
  cases r with
  | ok a t => exact hr.trans (hf a t)
  | no e t => exact hr

theorem countUse_voidsAtMost (s : State) : VoidsAtMost s (resState (countUse s)) := by
  unfold countUse
  split
  · exact .refl s
  · split
    · exact .withTcu s _
    · have htest := selfTest_voidsAtMost s
      split <;> rename_i t ht <;> rw [ht] at htest
      · exact htest.trans (.withTcu t _)
      · exact htest

theorem plainUse_voidsAtMost (s : State) : VoidsAtMost s (resState (plainUse s)) :=
  (midEvent_voidsAtMost s).trans (countUse_voidsAtMost _)

theorem slotUse_voidsAtMost (slot : Nat) (s : State) : VoidsAtMost s (resState (slotUse slot s)) := by
  refine (midEvent_voidsAtMost s).trans ?_
  unfold slotUse
  dsimp only
  split
  · exact andThen_voidsAtMost (countUse_voidsAtMost _) fun _ t => .refl t
  · exact .refl _

theorem eraseSlot_voidsAtMost (slot : Nat) (s : State) : VoidsAtMost s (eraseSlot slot s) := by
  have hdraw := drawWrite_voidsAtMost s
  unfold eraseSlot
  split <;> rename_i t ht <;> rw [ht] at hdraw
  · exact (hdraw.trans (.withZks t _)).trans (raise_voidsAtMost _ _)
  · exact (hdraw.trans (.withZks t _)).trans (raiseBeside_voidsAtMost _ _)

theorem checkSlot_voidsAtMost (slot : Nat) (s : State) : VoidsAtMost s (resState (checkSlot slot s)) := by
  refine andThen_voidsAtMost (slotUse_voidsAtMost slot s) fun kc t => ?_
  split
  · exact .refl t
  · exact eraseSlot_voidsAtMost slot t

theorem checkedKey_voidsAtMost (slot : Nat) (s : State) : VoidsAtMost s (resState (checkedKey slot s)) :=
  andThen_voidsAtMost (checkSlot_voidsAtMost slot s) fun _ t =>
    andThen_voidsAtMost (slotUse_voidsAtMost slot t) fun _ u => .refl u

theorem deriveKey_voidsAtMost (zone meter : Nat) (k : KeyRef) (s : State) : VoidsAtMost s (resState (deriveKey zone meter k s)) :=
  andThen_voidsAtMost (checkedKey_voidsAtMost k.slot s) fun _ t => .refl t

theorem chain_voidsAtMost (bs : List Block) (a : Block) (s : State) : VoidsAtMost s (resState (chain a bs s)) := by
  induction bs generalizing a s with
  | nil => exact .refl s
  | cons b bs ih => exact andThen_voidsAtMost (slotUse_voidsAtMost 1 s) fun _ t => ih _ t

theorem authenticator_voidsAtMost (bs : List Block) (s : State) : VoidsAtMost s (resState (authenticator bs s)) :=
  andThen_voidsAtMost (checkSlot_voidsAtMost 1 s) fun _ t => chain_voidsAtMost bs 0 t

theorem encipherParts_voidsAtMost (ps : List (Block × TokenClass × Nat)) (tid : Nat) (s : State) :
    VoidsAtMost s (resState (encipherParts tid ps s)) := by
  induction ps generalizing tid s with
  | nil => exact .refl s
  | cons p ps ih =>
    exact andThen_voidsAtMost (plainUse_voidsAtMost s) fun _ t => andThen_voidsAtMost (ih _ t) fun _ u => .refl u

theorem formSet_voidsAtMost (zone meter : Nat) (key : KeyRef) (change : Option KeyRef) (tid : Nat) (set : TokenSet) (s : State) :
    VoidsAtMost s (resState (formSet zone meter key change tid set s)) := by
  refine andThen_voidsAtMost (deriveKey_voidsAtMost zone meter key s) fun toKey t => ?_
  cases change with
  | none => exact encipherParts_voidsAtMost _ _ t
  | some k => exact andThen_voidsAtMost (deriveKey_voidsAtMost zone meter k t) fun _ u => encipherParts_voidsAtMost _ _ u

theorem attempt_voidsAtMost (zone meter : Nat) (k : KeyRef) (token : Block) (s : State) :
    VoidsAtMost s (resState (attempt zone meter k token s)) :=
  andThen_voidsAtMost (deriveKey_voidsAtMost zone meter k s) fun _ t =>
    andThen_voidsAtMost (plainUse_voidsAtMost t) fun _ u => .refl u

theorem loadedKey_voidsAtMost (slot : Nat) (field : Block) (s : State) : VoidsAtMost s (resState (loadedKey slot field s)) := by
  unfold loadedKey
  split
  · exact .refl s
  · exact andThen_voidsAtMost (checkedKey_voidsAtMost 0 s) fun _ t => .refl t

/-! ### The clock, the directory's steps and start-up (R11, R12, R138, R164) -/

theorem rolledMonth_voidsAtMost (s : State) : VoidsAtMost s (rolledMonth s) := .ite (.of_eq rfl rfl) (.of_eq rfl rfl)

theorem rollMonth_voidsAtMost (s : State) : VoidsAtMost s (rollMonth s).2 :=
  retained_voidsAtMost rolledMonth_voidsAtMost fun t => .withClk t _

theorem jumpClock_voidsAtMost (minute : Nat) (s : State) : VoidsAtMost s (jumpClock minute s).2 := by
  unfold jumpClock
  dsimp only
  split
  · exact (VoidsAtMost.withClk s _).trans (rollMonth_voidsAtMost _)
  · exact .withClk s _

theorem startRoll_voidsAtMost (s : State) : VoidsAtMost s (startRoll s) := by
  unfold startRoll
  split
  · exact .withStartUp s _
  · split
    · have hroll := rollMonth_voidsAtMost s
      split <;> rename_i t ht <;> rw [ht] at hroll <;> exact hroll.trans (.withStartUp t _)
    · exact .withStartUp s _

theorem retryStartRoll_voidsAtMost (s : State) : VoidsAtMost s (retryStartRoll s) := by
  have hroll := rollMonth_voidsAtMost s
  unfold retryStartRoll
  split <;> rename_i t ht <;> rw [ht] at hroll
  · exact hroll.trans (startRoll_voidsAtMost t)
  · exact hroll

theorem stepMade_voidsAtMost (s : State) : VoidsAtMost s (stepMade s) := by
  unfold stepMade
  dsimp only
  split
  · exact (VoidsAtMost.withDir s _).trans (.withAst _ _)
  · exact .withDir s _

theorem tryStep_voidsAtMost (s : State) : VoidsAtMost s (tryStep s).2 := retained_voidsAtMost stepMade_voidsAtMost .refl

theorem completeChange_voidsAtMost (fuel : Nat) (s : State) : VoidsAtMost s (completeChange fuel s).2 := by
  induction fuel generalizing s with
  | zero => exact .refl s
  | succ fuel ih =>
    unfold completeChange
    split
    · exact .refl s
    · have hstep := tryStep_voidsAtMost s
      split <;> rename_i t ht <;> rw [ht] at hstep
      · exact hstep.trans (ih t)
      · exact hstep

theorem startDirectory_voidsAtMost (s : State) : VoidsAtMost s (startDirectory s) := by
  have hchange := completeChange_voidsAtMost (s.dir.entries.length + 1) s
  unfold startDirectory
  split <;> rename_i t ht <;> rw [ht] at hchange
  · exact ((hchange.trans (.withAst t _)).trans (selfTest_voidsAtMost _)).trans (startRoll_voidsAtMost _)
  · exact hchange.trans (.withStartUp t _)

theorem takeStep_voidsAtMost (k : DirStep) (s : State) : VoidsAtMost s (takeStep k s) := by
  unfold takeStep
  split
  · have hstep := tryStep_voidsAtMost s
    split <;> rename_i t ht <;> rw [ht] at hstep
    · exact .ite (hstep.trans (startDirectory_voidsAtMost t)) hstep
    · exact hstep
  · exact .refl s

theorem resumeStartUp_voidsAtMost (s : State) : VoidsAtMost s (resumeStartUp s) := by
  unfold resumeStartUp
  split
  · exact .refl s
  · split
    · exact startDirectory_voidsAtMost s
    · exact startRoll_voidsAtMost s
    · exact .refl s

theorem startZeroise_voidsAtMost (s : State) : VoidsAtMost s (startZeroise s) := by
  unfold startZeroise
  split
  · have hzeroise := zeroise_voidsAtMost s
    split <;> rename_i t ht <;> rw [ht] at hzeroise
    · exact hzeroise.trans (startDirectory_voidsAtMost t)
    · exact hzeroise.trans (.withStartUp t _)
  · exact startDirectory_voidsAtMost s

/-- Power-on empties the table and reserves nothing, under the balance and the ceiling it finds (R88, R164). -/
theorem powerOnValues_floatLaw {s : State} (h : s.floatLaw) : (powerOnValues s).floatLaw := by
  obtain ⟨-, -, hceiling⟩ := h
  have hentry : ∀ k, (powerOnValues s).quoteAt k = none := by
    intro k
    simp only [State.quoteAt, powerOnValues, pick, Vector.getElem?_replicate]
    split
    · rfl
    · split <;> rfl
  have hzero : (fun k => acceptedOf ((powerOnValues s).quoteAt k)) = fun _ => 0 := funext fun k => congrArg acceptedOf (hentry k)
  have hsum : (powerOnValues s).acceptedSum = 0 := congrArg (fun f : Nat → Nat => (counterLanes.map f).sum) hzero
  exact ⟨hsum.symm, Nat.zero_le _, hceiling⟩

/-! ### The office link (chapter 10) -/

theorem giveAnswer_voidsAtMost (r : Reply) (s : State) : VoidsAtMost s (giveAnswer r s) := .ite (.of_eq rfl rfl) (.of_eq rfl rfl)

theorem frameComplete_voidsAtMost (body : List Byte) (high low : Byte) (bad : Bool) (s : State) :
    VoidsAtMost s (frameComplete body high low bad s) := by
  unfold frameComplete
  split
  · unfold judge
    split
    · exact .withOlk s _
    · split
      · exact giveAnswer_voidsAtMost _ s
      · exact (VoidsAtMost.withOlk s _).trans (.withLqa _ _)
  · exact .withOlk s _

theorem takeByte_voidsAtMost (h : Held) (s : State) : VoidsAtMost s (takeByte h s) := by
  unfold takeByte
  dsimp only
  split
  · exact .ite (.withOlk s _) (.refl s)
  · exact .ite (.withOlk s _) (.withOlk s _)
  · exact .ite (.withOlk s _) (.withOlk s _)
  · exact .withOlk s _
  · exact frameComplete_voidsAtMost _ _ _ _ s
  · exact .refl s

theorem takeHolding_voidsAtMost (s : State) : VoidsAtMost s (takeHolding s) := by
  unfold takeHolding
  split
  · exact .refl s
  · exact .ite (.refl s) ((VoidsAtMost.withOlk s _).trans (takeByte_voidsAtMost _ _))

theorem arriveChar_voidsAtMost (s : State) (c : LineChar) : VoidsAtMost s (arriveChar s c) := by
  unfold arriveChar
  split
  · exact .withOlk s _
  · exact (VoidsAtMost.withOlk s _).trans (takeHolding_voidsAtMost _)

theorem abandon_voidsAtMost (taken : List Byte) (s : State) : VoidsAtMost s (abandon taken s) := by
  unfold abandon
  split
  · exact .withOlk s _
  · exact .ite (.withOlk s _) (giveAnswer_voidsAtMost _ s)

theorem replySent_voidsAtMost (s : State) : VoidsAtMost s (replySent s) := by
  unfold replySent
  split
  · exact .refl s
  · split <;> exact .of_eq rfl rfl

theorem txAdvance_voidsAtMost (s : State) : VoidsAtMost s (txAdvance s) :=
  .ite (.ite (replySent_voidsAtMost s) (.withOlk s _)) (.refl s)

end Sys2Proof.Machine.VendingFloat

/-! ## Every step keeps the float's law: O59 -/

namespace Sys2Proof.Machine.VendingFloat

open Sys2Proof Sys2Proof.Machine Sys2Proof.Machine.Quotes

/-! ### Work that ends in the float's law -/

/-- Work whose answer, if it comes to one, comes with a state in which the float's law holds. -/
structure Lawful (r : Served) : Prop where
  law : ∀ a t, r = .next (a, t) → t.floatLaw

theorem Lawful.answered {s : State} (a : Answer) (h : s.floatLaw) : Lawful (answered a s) := by
  refine ⟨fun _ _ heq => ?_⟩
  cases heq
  exact h

theorem Lawful.refuse {s : State} (st : Status) (h : s.floatLaw) : Lawful (refuse st s) := .answered _ h

theorem Lawful.fault (f : Fault) : Lawful (.fault f) := by
  refine ⟨fun _ _ heq => ?_⟩
  cases heq

theorem Lawful.ite {p : Prop} [Decidable p] {x y : Served} (hx : Lawful x) (hy : Lawful y) : Lawful (if p then x else y) := by
  split
  · exact hx
  · exact hy

/-- A retained write: both ways begin on a state with the float and the table as they were. -/
theorem Lawful.retained {s : State} {made failed : State → Served} (hmade : ∀ t, VoidsAtMost s t → Lawful (made t))
    (hfailed : ∀ t, VoidsAtMost s t → Lawful (failed t)) : Lawful (retained s made failed) := by
  obtain ⟨v, h | h⟩ := retained_cases s made failed
  · rw [h]
    exact hmade _ (.withEnv s v)
  · rw [h]
    exact hfailed _ ((VoidsAtMost.withEnv s v).trans (raise_voidsAtMost .storeWrite _))

theorem Lawful.writeOr {s : State} {made : State → Served} (h : s.floatLaw) (hmade : ∀ t, VoidsAtMost s t → Lawful (made t)) :
    Lawful (writeOr s made) :=
  .retained hmade fun _ ht => .refuse _ (ht.law h)

theorem Lawful.writeVersion {r : Record} {s : State} {next : Nat → State → Served} (h : s.floatLaw)
    (hnext : ∀ slot t, VoidsAtMost s t → Lawful (next slot t)) : Lawful (writeVersion r s next) := by
  unfold Machine.writeVersion
  split
  · exact .fault _
  · rename_i slot t htake
    obtain ⟨rest, -, rfl⟩ := takeSlot_some htake
    have hpool := VoidsAtMost.withAst s { s.ast with free := rest }
    exact .retained (fun u hu => hnext slot _ ((hpool.trans hu).trans (.withAst u _))) fun u hu =>
      .refuse _ (((hpool.trans hu).trans (.withAst u _)).law h)

theorem Lawful.replaceRecord {e : Entry} {r : Record} {flag : Option Bool} {s : State} {next : State → Served} (h : s.floatLaw)
    (hnext : ∀ t, VoidsAtMost s t → Lawful (next t)) : Lawful (replaceRecord e r flag s next) :=
  .writeVersion h fun _ _ ht =>
    .retained (fun u hu => hnext _ (((ht.trans hu).trans (.withDir u _)).trans (.withAst _ _))) fun u hu =>
      .refuse _ (((ht.trans hu).trans (.withAst u _)).law h)

/-- Work under the cipher, and what goes on from its result. -/
theorem Lawful.served {α : Type} {s : State} {r : Res α} {f : α → State → Served} (h : s.floatLaw) (hr : VoidsAtMost s (resState r))
    (hf : ∀ a t, t.floatLaw → Lawful (f a t)) : Lawful (r.served f) := by
  cases r with
  | ok a t => exact hf a t (hr.law h)
  | no e t => exact .answered e (hr.law h)

/-! ### Records and the directory (chapter 01) -/

theorem quarantine_voidsAtMost (meter : Nat) (s : State) : VoidsAtMost s (quarantine meter s) := by
  have hdraw := drawWrite_voidsAtMost s
  unfold quarantine
  split <;> rename_i t ht <;> rw [ht] at hdraw
  · exact (hdraw.trans (.withDir t _)).trans (raise_voidsAtMost _ _)
  · exact hdraw.trans (raiseBeside_voidsAtMost _ _)

theorem findRecord_bad_voidsAtMost {meter : Nat} {s t : State} {e : Entry} (h : findRecord meter s = .bad e t) : VoidsAtMost s t := by
  unfold findRecord at h
  split at h
  · cases h
  · split at h
    · cases h
      exact .refl s
    · split at h
      · cases h
      · cases h
        exact quarantine_voidsAtMost meter s

theorem retireStart_lawful {s : State} (e : Entry) (writtenOff : Option Nat) (h : s.floatLaw) : Lawful (retireStart e writtenOff s) :=
  .retained (fun t ht => .answered _ ((ht.trans (.withDir t _)).law h)) fun _ ht => .refuse _ (ht.law h)

/-- The void of a SUSPEND leaves ISSUING quotes alone (R22). -/
theorem suspendQuote_voidsAtMost (meter : Nat) (s : State) : VoidsAtMost s (suspendQuote meter s).2 := by
  unfold suspendQuote
  split
  · split
    · exact voidWaiting_voidsAtMost _ _ s
    · exact .refl s
  · exact .refl s

section Records
variable {s : State} (h : s.floatLaw)
include h

theorem queryBody_lawful (meter : Nat) : Lawful (queryBody meter s) := by
  unfold queryBody
  split
  case h_1 => exact .refuse _ h
  case h_2 hbad => exact .answered _ ((findRecord_bad_voidsAtMost hbad).law h)
  case h_3 => exact .answered _ h

theorem enrolBody_lawful (meter plan revision eligible arrears rate : Nat) :
    Lawful (enrolBody meter plan revision eligible arrears rate s) := by
  have hstart (zone : Nat) (r : Record) : Lawful (enrolStart meter zone r s) :=
    .writeVersion h fun _ _ ht =>
      .retained (fun u hu => .answered _ (((ht.trans hu).trans (.withDir u _)).law h)) fun u hu =>
        .refuse _ (((ht.trans hu).trans (.withAst u _)).law h)
  refine .ite (.refuse _ h) (.ite (.refuse _ h) (.ite (.refuse _ h) ?_))
  split
  · exact .refuse _ h
  · exact .refuse _ h
  · exact .ite (.refuse _ h) (hstart _ _)

theorem retireBody_lawful (meter writeOff : Nat) : Lawful (retireBody meter writeOff s) := by
  have hbad := (quarantine_voidsAtMost meter s).law h
  refine .ite (.refuse _ h) ?_
  split
  · exact .refuse _ h
  · exact .ite (.refuse _ h) (.ite (.ite (retireStart_lawful _ _ h) (.refuse _ h))
      (.ite (.ite (retireStart_lawful _ _ hbad) (.refuse _ hbad)) (.ite (.refuse _ h) (retireStart_lawful _ _ h))))

theorem restoreBody_lawful (meter : Nat) (f : RestoreFields) : Lawful (restoreBody meter f s) := by
  refine .ite (.refuse _ h) ?_
  split
  · exact .refuse _ h
  · exact .ite (.refuse _ h) (.replaceRecord h fun _ ht => .answered _ (ht.law h))

theorem amendBody_lawful (meter : Nat) (f : AmendFields) : Lawful (amendBody meter f s) := by
  unfold amendBody
  split
  case h_1 => exact .refuse _ h
  case h_2 hbad => exact .refuse _ ((findRecord_bad_voidsAtMost hbad).law h)
  case h_3 =>
    exact .ite (.refuse _ h) (.ite (.refuse _ h) (.ite (.refuse _ h) (.replaceRecord h fun _ ht => .answered _ (ht.law h))))

theorem suspendBody_lawful (meter : Nat) : Lawful (suspendBody meter s) := by
  unfold suspendBody
  split
  case h_1 => exact .refuse _ h
  case h_2 hbad => exact .refuse _ ((findRecord_bad_voidsAtMost hbad).law h)
  case h_3 =>
    exact .ite (.answered _ h) (.replaceRecord h fun t ht => .answered _ ((ht.trans (suspendQuote_voidsAtMost meter t)).law h))

theorem resumeBody_lawful (meter : Nat) : Lawful (resumeBody meter s) := by
  unfold resumeBody
  split
  case h_1 => exact .refuse _ h
  case h_2 hbad => exact .refuse _ ((findRecord_bad_voidsAtMost hbad).law h)
  case h_3 => exact .ite (.answered _ h) (.replaceRecord h fun _ ht => .answered _ (ht.law h))

end Records

/-! ### Zones, keys, tariffs, the clock and the monitor (chapters 02, 03, 07 to 10) -/

theorem storeKey_lawful {s : State} (slot : Nat) (key : Block) (h : s.floatLaw) : Lawful (storeKey slot key s) :=
  .ite (.refuse _ h) (.writeOr h fun t ht => .answered _ ((ht.trans (.withZks t _)).law h))

theorem retest_voidsAtMost (s : State) : VoidsAtMost s (retest s).2 := by
  unfold retest
  split
  · exact .refl s
  · have htest := (midEvent_voidsAtMost s).trans (selfTest_voidsAtMost _)
    split <;> rename_i t ht <;> rw [ht] at htest <;> exact htest

section Settings
variable {s : State} (h : s.floatLaw)
include h

theorem zoneSetBody_lawful (zone : Nat) (f : ZoneFields) : Lawful (zoneSetBody zone f s) := by
  refine .ite (.refuse _ h) (.ite (.refuse _ h) (.ite (.refuse _ h) (.ite (.refuse _ h) ?_)))
  split
  · exact .answered _ h
  · exact .writeOr h fun t ht => .answered _ ((ht.trans (.withZks t _)).law h)

theorem keyRollBody_lawful (zone slot : Nat) : Lawful (keyRollBody zone slot s) := by
  refine .ite (.refuse _ h) (.ite (.refuse _ h) ?_)
  split
  · exact .refuse _ h
  · exact .ite (.refuse _ h) (.ite (.answered _ h) (.writeOr h fun t ht => .answered _ ((ht.trans (.withZks t _)).law h)))

theorem keyLoadBody_lawful (slot key check : Nat) : Lawful (keyLoadBody slot key check s) :=
  .ite (.refuse _ h) (.ite (.refuse _ h) (.ite (.refuse _ h) (.ite (.refuse _ h)
    (.served h (loadedKey_voidsAtMost _ _ s) fun _ t ht =>
      .served ht (plainUse_voidsAtMost t) fun _ _ hu => .ite (storeKey_lawful _ _ hu) (.refuse _ hu)))))

theorem loadPlanBody_lawful (index clear : Nat) (f : PlanFields) : Lawful (loadPlanBody index clear f s) :=
  .ite (.refuse _ h) (.ite (.refuse _ h) (.writeOr h fun _ ht => .answered _ (ht.law h)))

theorem armPlansBody_lawful (disarm month : Nat) : Lawful (armPlansBody disarm month s) := by
  have harm (m : Option Nat) : Lawful (armWith m s) := .writeOr h fun _ ht => .answered _ (ht.law h)
  exact .ite (.refuse _ h) (.ite (.refuse _ h) (.ite (harm _) (.ite (.answered _ h) (harm _))))

theorem setClockBody_lawful (minute : Nat) : Lawful (setClockBody minute s) :=
  .ite (.refuse _ h) (.ite (.answered _ h) (.answered _ ((jumpClock_voidsAtMost minute s).law h)))

theorem setBoundaryBody_lawful (clear minute : Nat) : Lawful (setBoundaryBody clear minute s) := by
  have hset (b : Option Nat) : Lawful (boundaryWith b s) := .writeOr h fun _ ht => .answered _ (ht.law h)
  exact .ite (.refuse _ h) (.ite (hset _) (.ite (.answered _ h) (hset _)))

theorem ackFaultBody_lawful : Lawful (ackFaultBody s) := by
  unfold ackFaultBody
  split
  · exact .refuse _ h
  · exact .answered _ (((VoidsAtMost.withFmn s _).trans (retest_voidsAtMost _)).law h)

theorem laneLevelBody_lawful (counter level : Nat) : Lawful (laneLevelBody counter level s) :=
  .ite (.refuse _ h) (.ite (.refuse _ h) (.writeOr h fun _ ht => .answered _ (ht.law h)))

theorem lockBody_lawful (key : Nat) : Lawful (lockBody key s) :=
  .ite (.refuse _ h) (.ite (.refuse _ h) (.writeOr h fun _ ht => .answered _ (ht.law h)))

theorem unlockBody_lawful (key : Nat) : Lawful (unlockBody key s) :=
  .ite (.answered _ h) (.ite (.refuse _ h) (.ite (.refuse _ h) (.writeOr h fun _ ht => .answered _ (ht.law h))))

theorem setLinkBody_lawful (divisor parity stopBits : Nat) : Lawful (setLinkBody divisor parity stopBits s) := by
  unfold setLinkBody
  split
  · exact .refuse _ h
  · exact .ite (.answered _ h) (.refuse _ h)

end Settings

/-! ### The float's own requests (chapter 06) -/

/-- A grant raises the balance, and to the ceiling at most (R127). -/
theorem granted_floatLaw {s : State} (sequence amount deadline : Nat) (h : s.floatLaw) :
    (s.withFlt (s.flt.granted sequence amount deadline)).floatLaw := by
  obtain ⟨hsum, hbalance, hceiling⟩ := h
  exact ⟨hsum, Nat.le_min.2 ⟨Nat.le_add_right_of_le hbalance, Nat.le_trans hbalance hceiling⟩, Nat.min_le_right _ _⟩

/-- The mark of a noted deadline is no part of the law (R120). -/
theorem noted_voidsAtMost (s : State) : VoidsAtMost s (s.withFlt { s.flt with noted := true }) where
  law h := h
  reserved_le := Nat.le_refl _
  balance_eq := rfl
  empty _ hk := hk
  issuing _ _ hk _ := hk

section Float
variable {s : State} (h : s.floatLaw)
include h

theorem statementBody_lawful (again : Nat) : Lawful (statementBody again s) := by
  refine .ite (.refuse _ h) (.ite ?_ ?_)
  · split
    · exact .answered _ h
    · exact .refuse _ h
  · exact .served h (authenticator_voidsAtMost _ s) fun _ t ht => .writeOr ht fun _ hu => .answered _ (hu.law ht)

theorem grantBody_lawful (sequence amount hours number auth : Nat) : Lawful (grantBody sequence amount hours number auth s) :=
  .ite (.refuse _ h) (.served h (authenticator_voidsAtMost _ s) fun _ _ ht =>
    .ite (.refuse _ ht) (.ite (.answered _ ht) (.writeOr ht fun _ hu => .answered _ (granted_floatLaw _ _ _ (hu.law ht)))))

/-- A ceiling below the balance has been refused before the write (R129). -/
theorem setLimitsBody_lawful (ceiling cap lease : Nat) : Lawful (setLimitsBody ceiling cap lease s) := by
  refine .ite (.refuse _ h) (.ite (.refuse _ h) ?_)
  split
  case isTrue => exact .refuse _ h
  case isFalse hceiling =>
    refine .writeOr h fun t ht => .answered _ ?_
    obtain ⟨hsum, hbalance, -⟩ := ht.law h
    exact ⟨hsum, hbalance, Nat.le_trans (Nat.le_of_eq ht.balance_eq) (Nat.le_of_not_lt hceiling)⟩

end Float

/-! ### QUOTE (R71 to R76, R117) -/

/-- A quote entered in an empty lane, for a tender that the unreserved balance bears. -/
theorem placeQuote_floatLaw {lane : Nat} {q : Quote} {s : State} (h0 : lane ≠ 0) (h8 : lane ≤ 8) (h : s.floatLaw)
    (hfree : s.quoteAt lane = none) (hroom : s.flt.reserved + q.accepted ≤ s.flt.balance) : (placeQuote lane q s).floatLaw := by
  have ⟨_, _, hceiling⟩ := h
  have hset : (setQuote lane (some q) (s.withFlt { s.flt with reserved := s.flt.reserved + q.accepted })).floatLaw := by
    refine floatLaw_setQuote h0 h8 h ?_ hroom hceiling
    rw [hfree]
    rfl
  unfold placeQuote
  dsimp only
  split
  · exact floatLaw_of_eq rfl rfl hset
  · exact hset

theorem openQuote_floatLaw {lane : Nat} {q : Quote} {s : State} (h0 : lane ≠ 0) (h8 : lane ≤ 8) (h : s.floatLaw)
    (hfree : s.quoteAt lane = none) (hroom : s.flt.reserved + q.accepted ≤ s.flt.balance) : (openQuote lane q s).floatLaw := by
  have hplaced := placeQuote_floatLaw h0 h8 h hfree hroom
  unfold openQuote
  dsimp only
  split
  · exact (voidWaiting_voidsAtMost _ lane _).law hplaced
  · exact hplaced

section Quote
variable {lane : Nat} {s : State} (h0 : lane ≠ 0) (h8 : lane ≤ 8) (h : s.floatLaw) (hfree : s.quoteAt lane = none)
include h0 h8 h hfree

/-- FLOAT_SHORT is judged before the version is written; what events fall after it only release tenders. -/
theorem quotePriced_lawful (offered : Nat) (e : Entry) (r : Record) (key : KeyRef) (change : Option KeyRef) :
    Lawful (quotePriced lane offered e r key change s) := by
  have hevent := midEvent_voidsAtMost s
  have hlaw := hevent.law h
  unfold quotePriced
  refine .ite (.refuse _ hlaw) (.ite (.refuse _ hlaw) (.ite (.refuse _ hlaw) ?_))
  split
  · exact .refuse _ hlaw
  · split
    · exact .refuse _ hlaw
    · refine .ite (.refuse _ hlaw) (.ite (.refuse _ hlaw) ?_)
      split
      case isTrue => exact .answered _ hlaw
      case isFalse f _ hshort =>
        have hagain := midEvent_voidsAtMost (midEvent s)
        refine .writeVersion (hagain.law hlaw) fun shadow t ht => ?_
        have hu := (hagain.trans ht).trans (midEvent_voidsAtMost t)
        have hroom : (midEvent t).flt.reserved + f.accepted ≤ (midEvent t).flt.balance := by
          have hless := hu.reserved_le
          have hsame := hu.balance_eq
          obtain ⟨-, hordered, -⟩ := hlaw
          omega
        exact .answered _ (openQuote_floatLaw h0 h8 (hu.law hlaw) ((hevent.trans hu).empty lane hfree) hroom)

theorem quoteKeyed_lawful (offered : Nat) (e : Entry) (r : Record) (key : KeyRef) (change : Option KeyRef) :
    Lawful (quoteKeyed lane offered e r key change s) := by
  have hevent := midEvent_voidsAtMost s
  unfold quoteKeyed
  dsimp only
  split
  · exact .answered _ (hevent.law h)
  · exact quotePriced_lawful h0 h8 (hevent.law h) (hevent.empty lane hfree) ..

theorem quoteFound_lawful (meter offered : Nat) (e : Entry) (r : Record) : Lawful (quoteFound lane meter offered e r s) := by
  refine .ite (.refuse _ h) (.ite (.refuse _ h) (.ite (.refuse _ h) ?_))
  split
  · exact .answered _ h
  · exact quoteKeyed_lawful h0 h8 h hfree ..
  · exact quoteKeyed_lawful h0 h8 h hfree ..

omit hfree in
theorem quoteBody_lawful (meter offered : Nat) : Lawful (quoteBody lane meter offered s) := by
  have hevent := (setNote_voidsAtMost lane .none s).trans (midEvent_voidsAtMost _)
  have hlaw := hevent.law h
  unfold quoteBody
  dsimp only
  split
  case isTrue => exact .refuse _ hlaw
  case isFalse hopen =>
    have hempty := Option.not_isSome_iff_eq_none.1 hopen
    split
    case h_1 => exact .refuse _ hlaw
    case h_2 hbad => exact .refuse _ ((findRecord_bad_voidsAtMost hbad).law hlaw)
    case h_3 =>
      have hagain := midEvent_voidsAtMost (midEvent (setNote lane .none s))
      exact quoteFound_lawful h0 h8 (hagain.law hlaw) (hagain.empty lane hempty) ..

end Quote

/-! ### ISSUE, WITHDRAW and COUNTERSIGN (R79 to R83, R85, R96, R119) -/

theorem closeSale_quotes (lane : Nat) (q : Quote) (s : State) :
    (closeSale lane q s).qtb.quotes = (setQuote lane none s).qtb.quotes := by rw [closeSale_qtb]

/-- The commit draws the accepted tender from balance and reserved alike, and the sale's entry empties. -/
theorem closeSale_commitStep_floatLaw {lane : Nat} {q p : Quote} {s : State} (h : s.floatLaw) (hp : s.quoteAt lane = some p)
    (haccepted : p.accepted = q.accepted) : (closeSale lane q (commitStep q s)).floatLaw := by
  obtain ⟨h0, h8⟩ := quoteAt_some_lane hp
  have hreserved := accepted_le_reserved h hp
  have ⟨_, hbalance, hceiling⟩ := h
  refine floatLaw_of_eq (s := setQuote lane none (s.withFlt (commitStep q s).flt)) ?_ ?_ (floatLaw_setQuote h0 h8 h ?_ ?_ ?_)
  · rw [closeSale_flt, setQuote_eq]
    rfl
  · rw [closeSale_quotes, setQuote_counter h0, setQuote_counter h0]
    rfl
  · rw [hp, acceptedOf_some, acceptedOf_none]
    simp only [commitStep, State.withFlt_flt]
    omega
  · simp only [commitStep, State.withFlt_flt]
    omega
  · simp only [commitStep, State.withFlt_flt]
    omega

theorem failIssue_lawful (lane : Nat) (a : Answer) {s : State} (h : s.floatLaw) : Lawful (failIssue lane a s) :=
  .answered a (voidQuote_floatLaw lane h)

theorem commitIssue_lawful {lane : Nat} {q p : Quote} {s : State} (tid : Nat) (tokens : List Block) (h : s.floatLaw)
    (hp : s.quoteAt lane = some p) (hissuing : p.state = .issuing) (haccepted : p.accepted = q.accepted) :
    Lawful (commitIssue lane q tid tokens s) :=
  .retained
    (fun t ht =>
      have hslot := ht.trans (VoidsAtMost.withAst t _)
      .retained
        (fun _ hu => .answered _ (closeSale_commitStep_floatLaw ((hslot.trans hu).law h) ((hslot.trans hu).issuing lane p hp hissuing)
          haccepted))
        fun _ hu => failIssue_lawful lane _ ((hslot.trans hu).law h))
    fun _ ht => failIssue_lawful lane _ (ht.law h)

/-- No event among the cipher uses voids the quote: it stands ISSUING until the commit. -/
theorem proceedIssue_lawful {lane : Nat} {q : Quote} {s : State} (h : s.floatLaw) (hq : s.quoteAt lane = some q) :
    Lawful (proceedIssue lane q s) := by
  obtain ⟨h0, h8⟩ := quoteAt_some_lane hq
  have hlaw : (setQuote lane (some { q with state := .issuing }) s).floatLaw := setQuote_floatLaw h hq rfl
  have hentry := quoteAt_setQuote_same (some { q with state := .issuing }) s h0 h8
  unfold proceedIssue
  dsimp only
  refine .ite (failIssue_lawful lane _ hlaw) ?_
  split <;> rename_i t hform
  · have hset := hform ▸ formSet_voidsAtMost ..
    exact failIssue_lawful lane _ (hset.law hlaw)
  · have hset := hform ▸ formSet_voidsAtMost ..
    exact commitIssue_lawful _ _ (hset.law hlaw) (hset.issuing lane _ hentry rfl) rfl rfl

theorem answerNote_lawful (lane : Nat) {s : State} (h : s.floatLaw) : Lawful (answerNote lane s) := by
  have hnote := (setNote_voidsAtMost lane .none s).law h
  unfold answerNote
  split
  · exact .refuse _ hnote
  · exact .refuse _ hnote
  · exact .refuse _ h

theorem issueBody_lawful (lane : Nat) {s : State} (h : s.floatLaw) : Lawful (issueBody lane s) := by
  unfold issueBody
  split
  case h_1 => exact answerNote_lawful lane h
  case h_2 q hq =>
    split
    · exact .refuse _ h
    · exact .fault _
    · exact .ite (.refuse _ h) (proceedIssue_lawful h hq)

theorem withdrawBody_lawful (lane : Nat) {s : State} (h : s.floatLaw) : Lawful (withdrawBody lane s) := by
  unfold withdrawBody
  split
  · exact answerNote_lawful lane h
  · exact .ite (.fault _) (.answered _ (voidQuote_floatLaw lane h))

theorem countersignBody_lawful (counter : Nat) {s : State} (h : s.floatLaw) : Lawful (countersignBody counter s) := by
  refine .ite (.refuse _ h) ?_
  split
  case h_1 q hq => exact .ite (.answered _ (setQuote_floatLaw h hq rfl)) (.refuse _ h)
  case h_2 => exact .refuse _ h

theorem setCountersignBody_lawful (period threshold : Nat) {s : State} (h : s.floatLaw) : Lawful (setCountersignBody period threshold s) :=
  .ite (.refuse _ h) (.ite (.refuse _ h) (.retained (fun _ ht => .answered _ (ht.law h)) fun _ ht => .refuse _ (ht.law h)))

/-! ### REPRINT and VERIFY (R108 to R114) -/

section Tokens
variable {s : State} (h : s.floatLaw)
include h

theorem reprintKeyed_lawful (meter : Nat) (r : Record) (i : LastIssue) (key : KeyRef) (change : Option KeyRef) :
    Lawful (reprintKeyed meter r i key change s) := by
  unfold reprintKeyed
  split
  · exact .answered _ h
  · exact .ite (.refuse _ h) (.served h (formSet_voidsAtMost ..) fun _ _ ht => .answered _ ht)

theorem reprintFound_lawful (meter : Nat) (r : Record) : Lawful (reprintFound meter r s) := by
  unfold reprintFound
  split
  · exact .refuse _ h
  · dsimp only
    split
    · split
      · exact reprintKeyed_lawful h ..
      · exact .answered _ h
    · split
      · exact reprintKeyed_lawful h ..
      · exact .answered _ h

theorem reprintBody_lawful (meter : Nat) : Lawful (reprintBody meter s) := by
  unfold reprintBody
  split
  case h_1 => exact .refuse _ h
  case h_2 hbad => exact .refuse _ ((findRecord_bad_voidsAtMost hbad).law h)
  case h_3 => exact reprintFound_lawful h ..

theorem verifySecond_lawful (meter : Nat) (r : Record) (token : Block) : Lawful (verifySecond meter r token s) := by
  unfold verifySecond
  split
  · exact .ite (.answered _ h) (.ite (.served h (attempt_voidsAtMost ..) fun _ _ ht => .answered _ ht) (.answered _ h))
  · exact .answered _ h

theorem verifyFound_lawful (meter : Nat) (r : Record) (token : Block) : Lawful (verifyFound meter r token s) := by
  unfold verifyFound
  split
  · exact .answered _ h
  · refine .ite (.answered _ h) (.ite (.refuse _ h) (.served h (attempt_voidsAtMost ..) fun d t ht => ?_))
    cases d with
    | some x => exact .answered _ ht
    | none => exact verifySecond_lawful ht ..

theorem verifyBody_lawful (meter token : Nat) : Lawful (verifyBody meter token s) := by
  unfold verifyBody
  split
  case h_1 => exact .refuse _ h
  case h_2 hbad => exact .refuse _ ((findRecord_bad_voidsAtMost hbad).law h)
  case h_3 => exact verifyFound_lawful h ..

end Tokens

/-! ### From the work to the step -/

theorem taken_floatLaw {i : Instr} {s g : State} (h : s.floatLaw) (ht : taken i s = some g) : g.floatLaw := by
  rw [taken_frame ht]
  exact h

theorem grantTo_floatLaw {lane : Nat} {r : Request} {s g : State} (h : s.floatLaw) (hg : grantTo lane r s = some g) : g.floatLaw := by
  obtain ⟨t, rest, ht, -, -, rfl⟩ := grantTo_some hg
  rw [granted_eq]
  subst ht
  split <;> exact h

theorem finish_floatLaw {s : State} (a : Answer) (h : s.floatLaw) : (finish a s).floatLaw :=
  floatLaw_of_eq (finish_flt a s) (by rw [finish_qtb]) h

/-- A request granted waits on one of the nine lanes. -/
theorem grantTo_lane_le {lane : Nat} {r : Request} {s g : State} (hg : grantTo lane r s = some g) : lane ≤ 8 := by
  obtain ⟨t, rest, -, hhead, -, -⟩ := grantTo_some hg
  refine Nat.le_of_not_lt fun hpast => ?_
  have hnone : t.lqa.queues[lane]? = none := Vector.getElem?_eq_none (by omega)
  rw [State.queueAt, pick, hnone] at hhead
  cases hhead

/-- A QUOTE is taken on a counter lane alone (R150). -/
theorem taken_quote_lane {lane tag meter tender : Nat} {s g : State} (h : taken (.quote lane tag meter tender) s = some g) :
    lane ≠ 0 ∧ lane ≤ 8 := by
  obtain ⟨k, r, hrequest, hgrant, hbarred⟩ := taken_some h
  cases hrequest
  refine ⟨?_, grantTo_lane_le hgrant⟩
  rintro rfl
  unfold barred at hbarred
  split at hbarred
  · cases hbarred
  · cases hbarred

theorem serve_floatLaw {i : Instr} {s t : State} {body : State → Served} (h : s.floatLaw) (he : serve i s body = .next t)
    (hbody : ∀ g, taken i s = some g → g.floatLaw → Lawful (body g)) : t.floatLaw := by
  obtain rfl | ⟨lane, r, g, st, -, hg, -, rfl⟩ | ⟨g, a, u, ht, hu, rfl⟩ := serve_cases he
  · exact h
  · exact finish_floatLaw _ (grantTo_floatLaw h hg)
  · exact finish_floatLaw a ((hbody g ht (taken_floatLaw h ht)).law a u hu)

theorem next_floatLaw {s t u : State} (h : s.floatLaw) (he : (.next u : Host.Outcome State Fault Refusal) = .next t)
    (hu : VoidsAtMost s u) : t.floatLaw := by
  cases he
  exact hu.law h

theorem powered_floatLaw {s t : State} {f : State → State} (h : s.floatLaw) (he : powered s f = .next t) (hf : VoidsAtMost s (f s)) :
    t.floatLaw :=
  next_floatLaw h he (.ite hf (.refl s))

/-- Every command keeps the law: a request by what its work comes to, an event because it is voids at most, power-on and the loss of
supply because they empty the table. -/
theorem exec_floatLaw {i : Instr} {s t : State} (h : s.floatLaw) (he : exec i s = .next t) : t.floatLaw := by
  unfold exec at he
  cases i with
  | query => exact serve_floatLaw h he fun _ _ hg => queryBody_lawful hg _
  | list => exact serve_floatLaw h he fun _ _ hg => .answered _ hg
  | verify => exact serve_floatLaw h he fun _ _ hg => verifyBody_lawful hg _ _
  | quote =>
    refine serve_floatLaw h he fun g ht hg => ?_
    obtain ⟨h0, h8⟩ := taken_quote_lane ht
    exact quoteBody_lawful h0 h8 hg _ _
  | issue => exact serve_floatLaw h he fun _ _ hg => issueBody_lawful _ hg
  | withdraw => exact serve_floatLaw h he fun _ _ hg => withdrawBody_lawful _ hg
  | reprint => exact serve_floatLaw h he fun _ _ hg => reprintBody_lawful hg _
  | enrol => exact serve_floatLaw h he fun _ _ hg => enrolBody_lawful hg _ _ _ _ _ _
  | retire => exact serve_floatLaw h he fun _ _ hg => retireBody_lawful hg _ _
  | amend => exact serve_floatLaw h he fun _ _ hg => amendBody_lawful hg _ _
  | suspend => exact serve_floatLaw h he fun _ _ hg => suspendBody_lawful hg _
  | resume => exact serve_floatLaw h he fun _ _ hg => resumeBody_lawful hg _
  | restore => exact serve_floatLaw h he fun _ _ hg => restoreBody_lawful hg _ _
  | countersign => exact serve_floatLaw h he fun _ _ hg => countersignBody_lawful _ hg
  | loadPlan => exact serve_floatLaw h he fun _ _ hg => loadPlanBody_lawful hg _ _ _
  | armPlans => exact serve_floatLaw h he fun _ _ hg => armPlansBody_lawful hg _ _
  | zoneSet => exact serve_floatLaw h he fun _ _ hg => zoneSetBody_lawful hg _ _
  | keyLoad => exact serve_floatLaw h he fun _ _ hg => keyLoadBody_lawful hg _ _ _
  | keyRoll => exact serve_floatLaw h he fun _ _ hg => keyRollBody_lawful hg _ _
  | setClock => exact serve_floatLaw h he fun _ _ hg => setClockBody_lawful hg _
  | setBoundary => exact serve_floatLaw h he fun _ _ hg => setBoundaryBody_lawful hg _ _
  | grant => exact serve_floatLaw h he fun _ _ hg => grantBody_lawful hg _ _ _ _ _
  | statement => exact serve_floatLaw h he fun _ _ hg => statementBody_lawful hg _
  | setHold => exact serve_floatLaw h he fun _ _ hg => .answered _ hg
  | ackFault => exact serve_floatLaw h he fun _ _ hg => ackFaultBody_lawful hg
  | laneLevel => exact serve_floatLaw h he fun _ _ hg => laneLevelBody_lawful hg _ _
  | setCountersign => exact serve_floatLaw h he fun _ _ hg => setCountersignBody_lawful _ _ hg
  | setLimits => exact serve_floatLaw h he fun _ _ hg => setLimitsBody_lawful hg _ _ _
  | lock => exact serve_floatLaw h he fun _ _ hg => lockBody_lawful hg _
  | unlock => exact serve_floatLaw h he fun _ _ hg => unlockBody_lawful hg _
  | zeroise => exact serve_floatLaw h he fun g _ hg => .answered _ ((zeroise_voidsAtMost g).law hg)
  | status => exact serve_floatLaw h he fun _ _ hg => .answered _ hg
  | setLink => exact serve_floatLaw h he fun _ _ hg => setLinkBody_lawful hg _ _ _
  | unknownRequestKind => exact serve_floatLaw h he fun _ _ hg => .refuse _ hg
  | frameReceived => exact next_floatLaw h he (.ite (foldl_voidsAtMost arriveChar_voidsAtMost _ s) (.refl s))
  | characterReceived => exact next_floatLaw h he (.ite (arriveChar_voidsAtMost s _) (.refl s))
  | interByteTimeout =>
    refine powered_floatLaw h he ?_
    split
    · exact .refl s
    · exact abandon_voidsAtMost _ s
    · exact abandon_voidsAtMost _ s
    · exact abandon_voidsAtMost _ s
    · exact .refl s
  | linkAnswerPlaced =>
    refine powered_floatLaw h he ?_
    split
    · exact .ite (((VoidsAtMost.withOlk s _).trans (.withOlk _ _)).trans (takeHolding_voidsAtMost _)) (.refl s)
    · exact .refl s
  | replySent => exact powered_floatLaw h he (replySent_voidsAtMost s)
  | linkBreak => exact powered_floatLaw h he (takeBreak_voidsAtMost s)
  | receiveWireReturnsHigh => exact powered_floatLaw h he (.withOlk s _)
  | leaseExpiry => exact powered_floatLaw h he (.ite (voidWaiting_voidsAtMost _ _ s) (.refl s))
  | deadlineExpiry => exact powered_floatLaw h he (.ite (noted_voidsAtMost s) (.refl s))
  | monthRoll => exact powered_floatLaw h he (.ite (rollMonth_voidsAtMost s) (.refl s))
  | monthRollRetry => exact powered_floatLaw h he (.ite (.ite (retryStartRoll_voidsAtMost s) (rollMonth_voidsAtMost s)) (.refl s))
  | clockEnd => exact next_floatLaw h he (.ite (.withClk s _) (.refl s))
  | clockSecond => exact next_floatLaw h he (.withClk s _)
  | enrolMoveStep => exact powered_floatLaw h he (takeStep_voidsAtMost _ s)
  | placingStep => exact powered_floatLaw h he (takeStep_voidsAtMost _ s)
  | retireMoveStep => exact powered_floatLaw h he (takeStep_voidsAtMost _ s)
  | closingStep => exact powered_floatLaw h he (takeStep_voidsAtMost _ s)
  | keyEraseRetry => exact powered_floatLaw h he (.ite (retained_voidsAtMost (left := id) (fun t => .withZks t _) .refl) (.refl s))
  | zeroiseRetry =>
    exact powered_floatLaw h he (.ite ((zeroiseWrite_voidsAtMost s).trans (resumeStartUp_voidsAtMost _)) (.refl s))
  | tamperZeroise =>
    have htamper := assertTamper_voidsAtMost s
    exact next_floatLaw h he (.ite (htamper.trans (resumeStartUp_voidsAtMost _)) htamper)
  | tamperReleased => exact next_floatLaw h he (.withTamper s _)
  | powerOnReset =>
    cases he
    exact (startZeroise_voidsAtMost _).law (powerOnValues_floatLaw h)
  | supplyLoss =>
    cases he
    exact powerOnValues_floatLaw h

/-- What the part does on its own is a command of its own or the transmitter's. -/
theorem idle_floatLaw {s t : State} (h : s.floatLaw) (he : idle s = .next t) : t.floatLaw := by
  unfold idle at he
  split at he
  · exact exec_floatLaw h he
  · split at he
    · split at he
      · exact exec_floatLaw h he
      · exact next_floatLaw h he (.refl s)
    · exact next_floatLaw h he (txAdvance_voidsAtMost s)

/-- Settles O59: a step is a command on the state without it, or the part's own work, and both keep the law. -/
theorem stepKeepsFloatLaw : Obligations.StepKeepsFloatLaw := by
  intro s t h he
  unfold Machine.step at he
  split at he
  case h_1 => exact idle_floatLaw h he
  case h_2 c rest _ => exact exec_floatLaw (s := s.withPending rest) h he

end Sys2Proof.Machine.VendingFloat

/-! ## SET LIMITS, GRANT and STATEMENT: O39, O40 and O41 -/

namespace Sys2Proof.Machine.VendingFloat

open Sys2Proof Sys2Proof.Machine Sys2Proof.Machine.KeysAndLock Sys2Proof.Machine.TariffAndClock

theorem drawWrite_flt {s u : State} {b : Bool} (h : drawWrite s = (b, u)) : u.flt = s.flt := by
  rw [drawWrite_frame h]
  rfl

/-! ### SET LIMITS (R129) -/

theorem takenLease_eq (lease : Nat) : takenLease lease = if lease < 30 then 30 else if 600 < lease then 600 else lease := by
  unfold takenLease
  split
  · omega
  · split <;> omega

/-- The lease is marked clamped just when it was not in 30 to 600. -/
theorem leaseClamped_eq (lease : Nat) : bit (decide (takenLease lease ≠ lease)) = if lease < 30 ∨ 600 < lease then 1 else 0 := by
  have hclamped : takenLease lease ≠ lease ↔ lease < 30 ∨ 600 < lease := by
    unfold takenLease
    omega
  simp only [bit, decide_eq_true_eq, hclamped]

theorem setLimitsBody_inRange {ceiling cap lease : Nat} {s : State} (hlock : s.fmn.configLock = false) (hlow : 1 ≤ ceiling)
    (hhigh : ceiling ≤ 1000000000) (hcap : cap ≤ 10000000) (hbalance : s.flt.balance ≤ ceiling) :
    setLimitsBody ceiling cap lease s = writeOr s fun t => answered
      (Answer.ok (fieldBytes [(4, ceiling), (4, cap), (2, takenLease lease), (1, if lease < 30 ∨ 600 < lease then 1 else 0)]))
      (t.withFlt { t.flt with ceiling := ceiling, cap := cap, lease := takenLease lease }) := by
  have hrange : ¬ (ceiling = 0 ∨ Config.maxFloat < ceiling ∨ Config.maxCents < cap) := by
    simp only [Config.maxFloat, Config.maxCents]
    omega
  simp only [setLimitsBody, hlock, Bool.false_eq_true, if_false, if_neg hrange, if_neg (Nat.not_lt.2 hbalance), leaseClamped_eq]

theorem setLimitsBody_outOfRange {ceiling cap lease : Nat} {s : State} (hlock : s.fmn.configLock = false)
    (hout : ceiling = 0 ∨ 1000000000 < ceiling ∨ 10000000 < cap ∨ ceiling < s.flt.balance) :
    setLimitsBody ceiling cap lease s = refuse .outOfRange s := by
  simp only [setLimitsBody, hlock, Bool.false_eq_true, if_false, Config.maxFloat, Config.maxCents]
  split
  case isTrue => rfl
  case isFalse hin => exact if_pos (by omega)

/-- Settles O41: the lock, the ranges, then the one write. -/
theorem setLimitsWrites : Obligations.SetLimitsWrites := by
  intro lane tag ceiling cap lease s g u ht
  refine ⟨fun hlock => exec_configWork_answered (.inl rfl) ht (if_pos hlock), fun hlock =>
    ⟨fun hout => exec_configWork_answered (.inl rfl) ht (setLimitsBody_outOfRange hlock hout),
      fun hlow hhigh hcap hbalance take htake => ?_⟩⟩
  rw [← takenLease_eq] at htake
  subst htake
  have hbody := setLimitsBody_inRange (lease := lease) hlock hlow hhigh hcap hbalance
  exact ⟨fun hw => exec_configWork_answered (.inl rfl) ht (hbody.trans (writeOr_made _ hw)),
    fun hw => exec_configWork_answered (.inl rfl) ht (hbody.trans (writeOr_failed _ hw))⟩

/-! ### GRANT (R125 to R127) -/

theorem exec_grant_answered {lane tag sequence amount hours number auth : Nat} {s g t : State} {a : Answer}
    (h : taken (.grant lane tag sequence amount hours number auth) s = some g)
    (hb : grantBody sequence amount hours number auth g = answered a t) :
    exec (.grant lane tag sequence amount hours number auth) s = .next (finish a t) :=
  serve_answered h hb

/-- A grant whose authenticator agrees, from the sequence check on (R126, R127). -/
def grantJudged (sequence amount hours number : Nat) (t : State) : Served :=
  if sequence ≠ nextNumber t.flt.sequence ∨ number ≠ t.flt.number then
    answered ⟨.outOfSequence, fieldBytes [(2, nextNumber t.flt.sequence), (2, t.flt.number)], none⟩ t
  else
    writeOr t fun u => answered
      (Answer.ok (fieldBytes [(4, min (u.flt.balance + amount) u.flt.ceiling), (4, u.flt.balance + amount - u.flt.ceiling),
        (3, grantDeadline u.clk.minute hours), (2, sequence)]))
      (u.withFlt (u.flt.granted sequence amount (grantDeadline u.clk.minute hours)))

/-- A grant in its ranges under a sound slot 1: three uses make the authenticator, which decides first. -/
theorem grantBody_authenticated {sequence amount hours number auth : Nat} {s : State} {k made : Block} (hlow : 1 ≤ amount)
    (hhigh : amount ≤ 1000000000) (hhours : 1 ≤ hours) (hmost : hours ≤ 720) (hk : s.sound 1 k) (hc : s.calm 3)
    (hmade : made = chained k (grantBlocks sequence amount hours number)) :
    grantBody sequence amount hours number auth s =
      if made ≠ blockOf auth then refuse .badAuthenticator (s.used 3)
      else grantJudged sequence amount hours number (s.used 3) := by
  subst hmade
  have hrange : ¬ (amount = 0 ∨ Config.maxFloat < amount ∨ hours = 0 ∨ 720 < hours) := by
    simp only [Config.maxFloat]
    omega
  have hauth : authenticator (grantBlocks sequence amount hours number) s =
      .ok (chained k (grantBlocks sequence amount hours number)) (s.used 3) := authenticator_sound hk hc
  simp only [grantBody, if_neg hrange, hauth, Res.served]
  rfl

theorem grantJudged_outOfSequence {sequence amount hours number : Nat} {t : State}
    (h : sequence ≠ (t.flt.sequence + 1) % 65536 ∨ number ≠ t.flt.number) :
    grantJudged sequence amount hours number t =
      answered ⟨.outOfSequence, fieldBytes [(2, (t.flt.sequence + 1) % 65536), (2, t.flt.number)], none⟩ t :=
  if_pos h

theorem grantJudged_inSequence {sequence amount hours number : Nat} {t : State} (hsequence : sequence = (t.flt.sequence + 1) % 65536)
    (hnumber : number = t.flt.number) :
    grantJudged sequence amount hours number t = writeOr t fun u => answered
      (Answer.ok (fieldBytes [(4, min (u.flt.balance + amount) u.flt.ceiling), (4, u.flt.balance + amount - u.flt.ceiling),
        (3, grantDeadline u.clk.minute hours), (2, sequence)]))
      (u.withFlt (u.flt.granted sequence amount (grantDeadline u.clk.minute hours))) :=
  if_neg (not_or.2 ⟨Classical.not_not.2 hsequence, Classical.not_not.2 hnumber⟩)

/-- Settles O39: the ranges, the authenticator, the sequence and the statement number, then the one write. -/
theorem grantRaisesFloat : Obligations.GrantRaisesFloat := by
  intro lane tag sequence amount hours number auth s g u k ht
  refine ⟨fun hout => exec_grant_answered ht (if_pos hout), fun hlow hhigh hhours hmost hk hc made hmade => ?_⟩
  have hbody := grantBody_authenticated (auth := auth) hlow hhigh hhours hmost hk hc hmade
  have hjudged (hright : made = BitVec.ofNat 64 auth) :
      grantBody sequence amount hours number auth g = grantJudged sequence amount hours number (g.used 3) :=
    hbody.trans (if_neg (Classical.not_not.2 hright))
  refine ⟨fun hwrong => exec_grant_answered ht (hbody.trans (if_pos hwrong)),
    fun hright hnot => exec_grant_answered ht ((hjudged hright).trans (grantJudged_outOfSequence hnot)),
    fun hright hsequence hnumber hw => ?_, fun hright hsequence hnumber hw => ?_⟩
  all_goals have hwrites := (hjudged hright).trans (grantJudged_inSequence (t := g.used 3) hsequence hnumber)
  · exact exec_grant_answered ht (hwrites.trans (writeOr_failed _ hw))
  · have hwritten := hwrites.trans (writeOr_made _ hw)
    rw [drawWrite_flt hw, drawWrite_clk hw] at hwritten
    rw [drawWrite_flt hw]
    exact exec_grant_answered ht hwritten

/-! ### STATEMENT (R121 to R124) -/

theorem exec_statement_answered {lane tag again : Nat} {s g t : State} {a : Answer} (h : taken (.statement lane tag again) s = some g)
    (hb : statementBody again g = answered a t) : exec (.statement lane tag again) s = .next (finish a t) :=
  serve_answered h hb

/-- A fresh statement under a sound slot 1: eight uses make its authenticator, and one write the rest. -/
theorem statementBody_fresh {s : State} {k made : Block} {number : Nat} (hk : s.sound 1 k) (hc : s.calm 8)
    (hnumber : number = nextNumber s.flt.number) (hmade : made = chained k (statementBlocks number s.clk.minute s.flt.totals)) :
    statementBody 0 s = writeOr (s.used 8) fun u =>
      answered (Answer.ok (Statement.payload ⟨number, s.clk.minute, s.flt.totals, made⟩))
        (u.withFlt { u.flt with
          totals := Totals.zero, number := number, last := some ⟨number, s.clk.minute, s.flt.totals, made⟩ }) := by
  subst hnumber hmade
  have hauth : authenticator (statementBlocks (nextNumber s.flt.number) s.clk.minute s.flt.totals) s =
      .ok (chained k (statementBlocks (nextNumber s.flt.number) s.clk.minute s.flt.totals)) (s.used 8) :=
    authenticator_sound hk hc
  simp only [statementBody, hauth, Res.served]
  rfl

theorem statementBody_repeat_some {s : State} {r : Statement} (h : s.flt.last = some r) :
    statementBody 1 s = answered (Answer.ok r.payload) s := by
  simp [statementBody, yesNo, h]

theorem statementBody_repeat_none {s : State} (h : s.flt.last = none) : statementBody 1 s = refuse .notFound s := by
  simp [statementBody, yesNo, h]

theorem statementBody_outOfRange {again : Nat} (s : State) (h : 1 < again) : statementBody again s = refuse .outOfRange s := by
  have hflag : yesNo again = false := by
    simp only [yesNo, decide_eq_false_iff_not]
    omega
  simp only [statementBody, hflag, Bool.not_false, if_true]

/-- Settles O40: a fresh statement is authenticated and written; a repeat reads the record kept. -/
theorem statementClears : Obligations.StatementClears := by
  intro lane tag s g u k
  refine ⟨fun ht hk hc number made t hnumber htotals hmade => ?_, fun again hagain ht =>
    exec_statement_answered ht (statementBody_outOfRange g hagain), fun ht =>
    ⟨fun hnone => exec_statement_answered ht (statementBody_repeat_none hnone),
      fun r hr => exec_statement_answered ht (statementBody_repeat_some hr)⟩⟩
  subst htotals
  have hbody := statementBody_fresh hk hc hnumber hmade
  exact ⟨fun hw => exec_statement_answered ht (hbody.trans (writeOr_failed _ hw)),
    fun hw => exec_statement_answered ht (hbody.trans (writeOr_made _ hw))⟩

end Sys2Proof.Machine.VendingFloat

/-! ## A second of the clock and SET BOUNDARY: O43 and O45 -/

namespace Sys2Proof.Machine.OfficeClock

open Sys2Proof Sys2Proof.Machine Sys2Proof.Machine.KeysAndLock Sys2Proof.Machine.TariffAndClock

/-! ### The clock's own count (R131 to R133) -/

theorem exec_clockSecond (s : State) : exec .clockSecond s = .next (s.withClk s.clk.tick) := rfl

theorem tick_second {c : Clk} (h : c.second < 59) : c.tick = { c with second := c.second + 1 } := if_pos h

theorem tick_minute {c : Clk} (hs : c.second = 59) (hm : c.minute < 16777215) :
    c.tick = { c with second := 0, minute := c.minute + 1 } :=
  (if_neg (by omega)).trans (if_pos hm)

theorem tick_end {c : Clk} (hs : c.second = 59) (hm : c.minute = 16777215) : c.tick = c :=
  (if_neg (by omega)).trans (if_neg (Nat.not_lt.2 (Nat.le_of_eq hm.symm)))

/-- Settles O45: a second by the three cases of the count, and the clock's end by its two. -/
theorem clockCounts : Obligations.ClockCounts := by
  intro s
  refine ⟨fun hs => ?_, fun hs hm => ?_, fun hs hm => ?_, fun hm hs => ?_, fun hm hs => ?_⟩
  · rw [exec_clockSecond, tick_second hs]
  · rw [exec_clockSecond, tick_minute hs hm]
  · rw [exec_clockSecond, tick_end hs hm, State.withClk_self]
  · exact congrArg Host.Outcome.next (if_pos ⟨hm, hs⟩)
  · exact congrArg Host.Outcome.next (if_neg fun ⟨_, hs'⟩ => by omega)

/-! ### SET BOUNDARY (R137) -/

theorem setBoundaryBody_outOfRange {clear minute : Nat} {s : State} (h : 1 < clear ∨ clear = 0 ∧ minute ≤ s.clk.minute) :
    setBoundaryBody clear minute s = refuse .outOfRange s :=
  if_pos (by simpa [yesNo] using h)

theorem setBoundaryBody_set {minute : Nat} {s : State} (h : s.clk.minute < minute) :
    setBoundaryBody 0 minute s = boundaryWith (some minute) s := by
  simp [setBoundaryBody, yesNo, Nat.not_le.2 h]

/-- A SET BOUNDARY with the clear mark looks at the boundary alone. -/
theorem setBoundaryBody_clear (minute : Nat) (s : State) :
    setBoundaryBody 1 minute s =
      if s.clk.boundary.isNone then answered (Answer.ok (setBoundaryPayload s)) s else boundaryWith none s := by
  simp [setBoundaryBody, yesNo]

theorem setBoundaryPayload_absent {s : State} (h : s.clk.boundary = none) :
    setBoundaryPayload s = 0 :: openBytes s 1 3 ++ fieldBytes [(3, s.clk.minute), (2, s.clk.month)] := by
  simp only [setBoundaryPayload, h]
  rfl

/-- A boundary written is the new one, the clock else as it was. -/
theorem boundaryWith_some_made {b : Nat} {s u : State} (hw : drawWrite s = (false, u)) :
    boundaryWith (some b) s = answered (Answer.ok (fieldBytes [(1, 1), (3, b), (3, s.clk.minute), (2, s.clk.month)]))
      (u.withClk { u.clk with boundary := some b, rollWaiting := false }) := by
  rw [← drawWrite_clk hw]
  exact writeOr_made _ hw

/-- A boundary cleared leaves the clock else as it was; its reply's open bytes are those of the state before the write. -/
theorem boundaryWith_none_made {s u : State} (hw : drawWrite s = (false, u)) :
    boundaryWith none s = answered (Answer.ok (0 :: openBytes s 1 3 ++ fieldBytes [(3, s.clk.minute), (2, s.clk.month)]))
      (u.withClk { u.clk with boundary := none, rollWaiting := false }) := by
  have hopen : openBytes u 1 3 = openBytes s 1 3 := by simp only [openBytes, drawWrite_freeReads hw]
  rw [← drawWrite_clk hw, ← hopen]
  exact writeOr_made _ hw

theorem boundaryWith_failed {b : Option Nat} {s u : State} (hw : drawWrite s = (true, u)) :
    boundaryWith b s = refuse .storeFault (raise .storeWrite u) :=
  writeOr_failed _ hw

/-- Settles O43: the ranges, then the boundary's one write, which a clear mark makes only when a boundary stands. -/
theorem setBoundarySets : Obligations.SetBoundarySets := by
  intro lane tag clear minute s g u ht
  refine ⟨fun hout => exec_configWork_answered (.inr rfl) ht (setBoundaryBody_outOfRange hout), ?_, ?_⟩
  · rintro rfl habove
    have hbody := setBoundaryBody_set habove
    exact ⟨fun hw => exec_configWork_answered (.inr rfl) ht (hbody.trans (boundaryWith_some_made hw)),
      fun hw => exec_configWork_answered (.inr rfl) ht (hbody.trans (boundaryWith_failed hw))⟩
  · rintro rfl
    have hbody := setBoundaryBody_clear minute g
    have hstands (hsome : g.clk.boundary ≠ none) := hbody.trans (if_neg (by simpa using hsome))
    refine ⟨openBytes g 1 3, by simp [openBytes], fun hnone => ?_,
      fun hsome hw => exec_configWork_answered (.inr rfl) ht ((hstands hsome).trans (boundaryWith_none_made hw)),
      fun hsome hw => exec_configWork_answered (.inr rfl) ht ((hstands hsome).trans (boundaryWith_failed hw))⟩
    rw [← setBoundaryPayload_absent hnone]
    exact exec_configWork_answered (.inr rfl) ht (hbody.trans (if_pos (by simp [hnone])))

end Sys2Proof.Machine.OfficeClock

/-! ## What leaves the clock as it was -/

namespace Sys2Proof.Machine.OfficeClock

open Sys2Proof Sys2Proof.Machine Sys2Proof.Machine.VendingFloat

/-- What holds of a clock holds of one that has been left alone. -/
theorem holds_of_clk {Q : Clk → Prop} {s t : State} (hclk : t.clk = s.clk) (h : Q s.clk) : Q t.clk := hclk ▸ h

/-- A retained write, read by the state it leaves: both ways begin on the clock as it was. -/
theorem retained_holds {Q : Clk → Prop} {α : Type} {left : α → State} {s : State} {made failed : State → α} (h : Q s.clk)
    (hmade : ∀ t, Q t.clk → Q (left (made t)).clk) (hfailed : ∀ t, Q t.clk → Q (left (failed t)).clk) :
    Q (left (retained s made failed)).clk := by
  obtain ⟨v, hw | hw⟩ := retained_cases s made failed
  · rw [hw]
    exact hmade _ h
  · rw [hw]
    exact hfailed _ h

/-! ### Cipher uses (R43 to R45) -/

theorem selfTest_clk (s : State) : (selfTest s).2.clk = s.clk := by
  have hdraw : (drawTest s).2.clk = s.clk := by
    unfold drawTest
    split <;> rfl
  unfold selfTest
  split <;> rename_i t ht <;> rw [ht] at hdraw <;> exact hdraw

theorem andThen_clk {α β : Type} {s : State} {r : Res α} {f : α → State → Res β} (hr : (resState r).clk = s.clk)
    (hf : ∀ a t, (resState (f a t)).clk = t.clk) : (resState (r.andThen f)).clk = s.clk := by
  cases r with
  | ok a t => exact (hf a t).trans hr
  | no e t => exact hr

theorem countUse_clk (s : State) : (resState (countUse s)).clk = s.clk := by
  unfold countUse
  split
  · rfl
  · split
    · rfl
    · have htest := selfTest_clk s
      split <;> rename_i t ht <;> rw [ht] at htest <;> exact htest

theorem plainUse_clk (s : State) : (resState (plainUse s)).clk = s.clk := (countUse_clk _).trans (midEvent_keeps s).clk

theorem slotUse_clk (slot : Nat) (s : State) : (resState (slotUse slot s)).clk = s.clk := by
  refine Eq.trans ?_ (midEvent_keeps s).clk
  unfold slotUse
  dsimp only
  split
  · exact andThen_clk (countUse_clk _) fun _ _ => rfl
  · rfl

theorem eraseSlot_clk (slot : Nat) (s : State) : (eraseSlot slot s).clk = s.clk := by
  have hdraw := (drawWrite_keeps s).clk
  unfold eraseSlot
  split <;> rename_i t ht <;> rw [ht] at hdraw
  · exact hdraw
  · rw [raiseBeside_eq]
    exact hdraw

theorem checkSlot_clk (slot : Nat) (s : State) : (resState (checkSlot slot s)).clk = s.clk := by
  refine andThen_clk (slotUse_clk slot s) fun kc t => ?_
  split
  · rfl
  · exact eraseSlot_clk slot t

theorem checkedKey_clk (slot : Nat) (s : State) : (resState (checkedKey slot s)).clk = s.clk :=
  andThen_clk (checkSlot_clk slot s) fun _ t => andThen_clk (slotUse_clk slot t) fun _ _ => rfl

theorem deriveKey_clk (zone meter : Nat) (k : KeyRef) (s : State) : (resState (deriveKey zone meter k s)).clk = s.clk :=
  andThen_clk (checkedKey_clk k.slot s) fun _ _ => rfl

theorem authenticator_clk (bs : List Block) (s : State) : (resState (authenticator bs s)).clk = s.clk := by
  have hchain (a : Block) (t : State) : (resState (chain a bs t)).clk = t.clk := by
    induction bs generalizing a t with
    | nil => rfl
    | cons b bs ih => exact andThen_clk (slotUse_clk 1 t) fun _ u => ih _ u
  exact andThen_clk (checkSlot_clk 1 s) fun _ t => hchain 0 t

theorem encipherParts_clk (ps : List (Block × TokenClass × Nat)) (tid : Nat) (s : State) :
    (resState (encipherParts tid ps s)).clk = s.clk := by
  induction ps generalizing tid s with
  | nil => rfl
  | cons p ps ih => exact andThen_clk (plainUse_clk s) fun _ t => andThen_clk (ih _ t) fun _ _ => rfl

theorem formSet_clk (zone meter : Nat) (key : KeyRef) (change : Option KeyRef) (tid : Nat) (set : TokenSet) (s : State) :
    (resState (formSet zone meter key change tid set s)).clk = s.clk := by
  refine andThen_clk (deriveKey_clk zone meter key s) fun toKey t => ?_
  cases change with
  | none => exact encipherParts_clk _ _ t
  | some k => exact andThen_clk (deriveKey_clk zone meter k t) fun _ u => encipherParts_clk _ _ u

theorem attempt_clk (zone meter : Nat) (k : KeyRef) (token : Block) (s : State) :
    (resState (attempt zone meter k token s)).clk = s.clk :=
  andThen_clk (deriveKey_clk zone meter k s) fun _ t => andThen_clk (plainUse_clk t) fun _ _ => rfl

theorem loadedKey_clk (slot : Nat) (field : Block) (s : State) : (resState (loadedKey slot field s)).clk = s.clk := by
  unfold loadedKey
  split
  · rfl
  · exact andThen_clk (checkedKey_clk 0 s) fun _ _ => rfl

theorem retest_clk (s : State) : (retest s).2.clk = s.clk := by
  unfold retest
  split
  · rfl
  · have htest := (selfTest_clk (midEvent s)).trans (midEvent_keeps s).clk
    split <;> rename_i t ht <;> rw [ht] at htest <;> exact htest

/-! ### Events, records and quotes -/

theorem assertTamper_clk (s : State) : (assertTamper s).clk = s.clk := (takeEvent_keeps .tamper s).clk

theorem takeBreak_clk (s : State) : (takeBreak s).clk = s.clk := (takeEvent_keeps .linkBreak s).clk

theorem quarantine_clk (meter : Nat) (s : State) : (quarantine meter s).clk = s.clk := by
  have hdraw := (drawWrite_keeps s).clk
  unfold quarantine
  split <;> rename_i t ht <;> rw [ht] at hdraw
  · exact hdraw
  · rw [raiseBeside_eq]
    exact hdraw

theorem findRecord_bad_clk {meter : Nat} {s t : State} {e : Entry} (h : findRecord meter s = .bad e t) : t.clk = s.clk := by
  unfold findRecord at h
  split at h
  · cases h
  · split at h
    · cases h
      rfl
    · split at h
      · cases h
      · cases h
        exact quarantine_clk meter s

theorem suspendQuote_clk (meter : Nat) (s : State) : (suspendQuote meter s).2.clk = s.clk := by
  unfold suspendQuote
  split
  · split
    · exact (voidWaiting_keeps ..).clk
    · rfl
  · rfl

theorem openQuote_clk (lane : Nat) (q : Quote) (s : State) : (openQuote lane q s).clk = s.clk := by
  have hplaced : (placeQuote lane q s).clk = s.clk := by
    have hset := (setQuote_keeps lane (some q) (s.withFlt { s.flt with reserved := s.flt.reserved + q.accepted })).clk
    unfold placeQuote
    dsimp only
    split <;> exact hset
  unfold openQuote
  dsimp only
  split
  · exact (voidWaiting_keeps ..).clk.trans hplaced
  · exact hplaced

theorem closeSale_clk (lane : Nat) (q : Quote) (s : State) : (closeSale lane q s).clk = s.clk := by rw [Quotes.closeSale_eq]; rfl

/-! ### The directory's steps (R11, R12) -/

theorem tryStep_clk (s : State) : (tryStep s).2.clk = s.clk := by
  have hmade (t : State) : (stepMade t).clk = t.clk := by
    unfold stepMade
    dsimp only
    split <;> rfl
  exact retained_holds (Q := (· = s.clk)) (left := Prod.snd) rfl (fun t ht => (hmade t).trans ht) fun _ ht => ht

theorem completeChange_clk (fuel : Nat) (s : State) : (completeChange fuel s).2.clk = s.clk := by
  induction fuel generalizing s with
  | zero => rfl
  | succ fuel ih =>
    unfold completeChange
    split
    · rfl
    · have hstep := tryStep_clk s
      split <;> rename_i t ht <;> rw [ht] at hstep
      · exact (ih t).trans hstep
      · exact hstep

/-! ### The office link (chapter 10) -/

theorem giveAnswer_clk (r : Reply) (s : State) : (giveAnswer r s).clk = s.clk := by
  unfold giveAnswer
  split <;> rfl

theorem frameComplete_clk (body : List Byte) (high low : Byte) (bad : Bool) (s : State) :
    (frameComplete body high low bad s).clk = s.clk := by
  unfold frameComplete
  split
  · unfold judge
    split
    · rfl
    · split
      · exact giveAnswer_clk _ s
      · rfl
  · rfl

theorem takeByte_clk (h : Held) (s : State) : (takeByte h s).clk = s.clk := by
  unfold takeByte
  dsimp only
  split
  · split <;> rfl
  · split <;> rfl
  · split <;> rfl
  · rfl
  · exact frameComplete_clk _ _ _ _ s
  · rfl

theorem takeHolding_clk (s : State) : (takeHolding s).clk = s.clk := by
  unfold takeHolding
  split
  · rfl
  · split
    · rfl
    · exact takeByte_clk _ _

theorem arriveChar_clk (s : State) (c : LineChar) : (arriveChar s c).clk = s.clk := by
  unfold arriveChar
  split
  · rfl
  · exact takeHolding_clk _

theorem arriveChars_clk (cs : List LineChar) (s : State) : (cs.foldl arriveChar s).clk = s.clk := by
  induction cs generalizing s with
  | nil => rfl
  | cons c cs ih => exact (ih _).trans (arriveChar_clk s c)

theorem abandon_clk (taken : List Byte) (s : State) : (abandon taken s).clk = s.clk := by
  unfold abandon
  split
  · rfl
  · split
    · rfl
    · exact giveAnswer_clk _ s

theorem replySent_clk (s : State) : (replySent s).clk = s.clk := by
  unfold replySent
  split
  · rfl
  · split <;> rfl

end Sys2Proof.Machine.OfficeClock

/-! ## What the requests' work leaves of the clock -/

namespace Sys2Proof.Machine.OfficeClock

open Sys2Proof Sys2Proof.Machine Sys2Proof.Machine.VendingFloat

/-! ### Work that ends in a clock of which something holds -/

/-- Work whose answer, if it comes to one, comes with a clock of which `Q` holds. -/
structure EndsWith (Q : Clk → Prop) (r : Served) : Prop where
  clk : ∀ a t, r = .next (a, t) → Q t.clk

section Work

variable {Q : Clk → Prop} {s : State}

theorem EndsWith.answered (a : Answer) (h : Q s.clk) : EndsWith Q (answered a s) := by
  refine ⟨fun _ _ heq => ?_⟩
  cases heq
  exact h

theorem EndsWith.refuse (st : Status) (h : Q s.clk) : EndsWith Q (refuse st s) := .answered _ h

theorem EndsWith.fault (f : Fault) : EndsWith Q (.fault f) := by
  refine ⟨fun _ _ heq => ?_⟩
  cases heq

theorem EndsWith.ite {p : Prop} [Decidable p] {x y : Served} (hx : EndsWith Q x) (hy : EndsWith Q y) :
    EndsWith Q (if p then x else y) := by
  split
  · exact hx
  · exact hy

/-- A retained write: both ways begin on the clock as it was. -/
theorem EndsWith.retained {made failed : State → Served} (h : Q s.clk) (hmade : ∀ t, Q t.clk → EndsWith Q (made t))
    (hfailed : ∀ t, Q t.clk → EndsWith Q (failed t)) : EndsWith Q (retained s made failed) := by
  obtain ⟨v, hw | hw⟩ := retained_cases s made failed
  · rw [hw]
    exact hmade _ h
  · rw [hw]
    exact hfailed _ h

theorem EndsWith.writeOr {made : State → Served} (h : Q s.clk) (hmade : ∀ t, Q t.clk → EndsWith Q (made t)) :
    EndsWith Q (writeOr s made) :=
  .retained h hmade fun _ ht => .refuse _ ht

theorem EndsWith.writeVersion {r : Record} {next : Nat → State → Served} (h : Q s.clk)
    (hnext : ∀ slot t, Q t.clk → EndsWith Q (next slot t)) : EndsWith Q (writeVersion r s next) := by
  unfold Machine.writeVersion
  split
  · exact .fault _
  · rename_i slot t htake
    obtain ⟨rest, -, rfl⟩ := takeSlot_some htake
    exact .retained h (fun _ hu => hnext slot _ hu) fun _ hu => .refuse _ hu

theorem EndsWith.replaceRecord {e : Entry} {r : Record} {flag : Option Bool} {next : State → Served} (h : Q s.clk)
    (hnext : ∀ t, Q t.clk → EndsWith Q (next t)) : EndsWith Q (replaceRecord e r flag s next) :=
  .writeVersion h fun _ _ ht => .retained ht (fun _ hu => hnext _ hu) fun _ hu => .refuse _ hu

/-- Work under the cipher, and what goes on from its result. -/
theorem EndsWith.served {α : Type} {r : Res α} {f : α → State → Served} (h : Q s.clk) (hr : (resState r).clk = s.clk)
    (hf : ∀ a t, Q t.clk → EndsWith Q (f a t)) : EndsWith Q (r.served f) := by
  cases r with
  | ok a t => exact hf a t (holds_of_clk hr h)
  | no e t => exact .answered e (holds_of_clk hr h)

end Work

/-! ### Every request but SET CLOCK and SET BOUNDARY keeps what holds of the clock -/

section Requests

variable {Q : Clk → Prop} {s : State} (h : Q s.clk)
include h

theorem queryBody_endsWith (meter : Nat) : EndsWith Q (queryBody meter s) := by
  unfold queryBody
  split
  case h_1 => exact .refuse _ h
  case h_2 hbad => exact .answered _ (holds_of_clk (findRecord_bad_clk hbad) h)
  case h_3 => exact .answered _ h

theorem enrolBody_endsWith (meter plan revision eligible arrears rate : Nat) :
    EndsWith Q (enrolBody meter plan revision eligible arrears rate s) := by
  have hstart (zone : Nat) (r : Record) : EndsWith Q (enrolStart meter zone r s) :=
    .writeVersion h fun _ _ ht => .retained ht (fun _ hu => .answered _ hu) fun _ hu => .refuse _ hu
  refine .ite (.refuse _ h) (.ite (.refuse _ h) (.ite (.refuse _ h) ?_))
  split
  · exact .refuse _ h
  · exact .refuse _ h
  · exact .ite (.refuse _ h) (hstart _ _)

theorem retireStart_endsWith (e : Entry) (writtenOff : Option Nat) : EndsWith Q (retireStart e writtenOff s) :=
  .retained h (fun _ ht => .answered _ ht) fun _ ht => .refuse _ ht

theorem retireBody_endsWith (meter writeOff : Nat) : EndsWith Q (retireBody meter writeOff s) := by
  have hbad := holds_of_clk (quarantine_clk meter s) h
  refine .ite (.refuse _ h) ?_
  split
  · exact .refuse _ h
  · exact .ite (.refuse _ h) (.ite (.ite (retireStart_endsWith h _ _) (.refuse _ h))
      (.ite (.ite (retireStart_endsWith hbad _ _) (.refuse _ hbad)) (.ite (.refuse _ h) (retireStart_endsWith h _ _))))

theorem restoreBody_endsWith (meter : Nat) (f : RestoreFields) : EndsWith Q (restoreBody meter f s) := by
  refine .ite (.refuse _ h) ?_
  split
  · exact .refuse _ h
  · exact .ite (.refuse _ h) (.replaceRecord h fun _ ht => .answered _ ht)

theorem amendBody_endsWith (meter : Nat) (f : AmendFields) : EndsWith Q (amendBody meter f s) := by
  unfold amendBody
  split
  case h_1 => exact .refuse _ h
  case h_2 hbad => exact .refuse _ (holds_of_clk (findRecord_bad_clk hbad) h)
  case h_3 => exact .ite (.refuse _ h) (.ite (.refuse _ h) (.ite (.refuse _ h) (.replaceRecord h fun _ ht => .answered _ ht)))

theorem suspendBody_endsWith (meter : Nat) : EndsWith Q (suspendBody meter s) := by
  unfold suspendBody
  split
  case h_1 => exact .refuse _ h
  case h_2 hbad => exact .refuse _ (holds_of_clk (findRecord_bad_clk hbad) h)
  case h_3 =>
    exact .ite (.answered _ h) (.replaceRecord h fun t ht => .answered _ (holds_of_clk (suspendQuote_clk meter t) ht))

theorem resumeBody_endsWith (meter : Nat) : EndsWith Q (resumeBody meter s) := by
  unfold resumeBody
  split
  case h_1 => exact .refuse _ h
  case h_2 hbad => exact .refuse _ (holds_of_clk (findRecord_bad_clk hbad) h)
  case h_3 => exact .ite (.answered _ h) (.replaceRecord h fun _ ht => .answered _ ht)

theorem zoneSetBody_endsWith (zone : Nat) (f : ZoneFields) : EndsWith Q (zoneSetBody zone f s) := by
  refine .ite (.refuse _ h) (.ite (.refuse _ h) (.ite (.refuse _ h) (.ite (.refuse _ h) ?_)))
  split
  · exact .answered _ h
  · exact .writeOr h fun _ ht => .answered _ ht

theorem keyRollBody_endsWith (zone slot : Nat) : EndsWith Q (keyRollBody zone slot s) := by
  refine .ite (.refuse _ h) (.ite (.refuse _ h) ?_)
  split
  · exact .refuse _ h
  · exact .ite (.refuse _ h) (.ite (.answered _ h) (.writeOr h fun _ ht => .answered _ ht))

theorem keyLoadBody_endsWith (slot key check : Nat) : EndsWith Q (keyLoadBody slot key check s) := by
  have hstore (k : Block) (t : State) (ht : Q t.clk) : EndsWith Q (storeKey slot k t) :=
    .ite (.refuse _ ht) (.writeOr ht fun _ hu => .answered _ hu)
  exact .ite (.refuse _ h) (.ite (.refuse _ h) (.ite (.refuse _ h) (.ite (.refuse _ h)
    (.served h (loadedKey_clk _ _ s) fun k t ht =>
      .served ht (plainUse_clk t) fun _ _ hu => .ite (hstore k _ hu) (.refuse _ hu)))))

theorem armPlansBody_endsWith (disarm month : Nat) : EndsWith Q (armPlansBody disarm month s) := by
  have harm (m : Option Nat) : EndsWith Q (armWith m s) := .writeOr h fun _ ht => .answered _ ht
  exact .ite (.refuse _ h) (.ite (.refuse _ h) (.ite (harm _) (.ite (.answered _ h) (harm _))))

theorem ackFaultBody_endsWith : EndsWith Q (ackFaultBody s) := by
  unfold ackFaultBody
  split
  case h_1 => exact .refuse _ h
  case h_2 e rest _ => exact .answered _ (holds_of_clk (retest_clk (popHold e rest s)) h)

theorem setLinkBody_endsWith (divisor parity stopBits : Nat) : EndsWith Q (setLinkBody divisor parity stopBits s) := by
  unfold setLinkBody
  split
  · exact .refuse _ h
  · exact .ite (.answered _ h) (.refuse _ h)

theorem statementBody_endsWith (again : Nat) : EndsWith Q (statementBody again s) := by
  refine .ite (.refuse _ h) (.ite ?_ ?_)
  · split
    · exact .answered _ h
    · exact .refuse _ h
  · exact .served h (authenticator_clk _ s) fun _ _ ht => .writeOr ht fun _ hu => .answered _ hu

theorem grantBody_endsWith (sequence amount hours number auth : Nat) : EndsWith Q (grantBody sequence amount hours number auth s) :=
  .ite (.refuse _ h) (.served h (authenticator_clk _ s) fun _ _ ht =>
    .ite (.refuse _ ht) (.ite (.answered _ ht) (.writeOr ht fun _ hu => .answered _ hu)))

theorem quotePriced_endsWith (lane offered : Nat) (e : Entry) (r : Record) (key : KeyRef) (change : Option KeyRef) :
    EndsWith Q (quotePriced lane offered e r key change s) := by
  have hevent := holds_of_clk (midEvent_keeps s).clk h
  unfold quotePriced
  refine .ite (.refuse _ hevent) (.ite (.refuse _ hevent) (.ite (.refuse _ hevent) ?_))
  split
  · exact .refuse _ hevent
  · split
    · exact .refuse _ hevent
    · refine .ite (.refuse _ hevent) (.ite (.refuse _ hevent) (.ite (.answered _ hevent) ?_))
      exact .writeVersion (holds_of_clk (midEvent_keeps _).clk hevent) fun _ t ht =>
        .answered _ (holds_of_clk ((openQuote_clk ..).trans (midEvent_keeps t).clk) ht)

theorem quoteKeyed_endsWith (lane offered : Nat) (e : Entry) (r : Record) (key : KeyRef) (change : Option KeyRef) :
    EndsWith Q (quoteKeyed lane offered e r key change s) := by
  have hevent := holds_of_clk (midEvent_keeps s).clk h
  unfold quoteKeyed
  dsimp only
  split
  · exact .answered _ hevent
  · exact quotePriced_endsWith hevent ..

theorem quoteFound_endsWith (lane meter offered : Nat) (e : Entry) (r : Record) : EndsWith Q (quoteFound lane meter offered e r s) := by
  refine .ite (.refuse _ h) (.ite (.refuse _ h) (.ite (.refuse _ h) ?_))
  split
  · exact .answered _ h
  · exact quoteKeyed_endsWith h ..
  · exact quoteKeyed_endsWith h ..

theorem quoteBody_endsWith (lane meter offered : Nat) : EndsWith Q (quoteBody lane meter offered s) := by
  have hevent := holds_of_clk ((midEvent_keeps _).clk.trans (setNote_keeps lane .none s).clk) h
  refine .ite (.refuse _ hevent) ?_
  split
  case h_1 => exact .refuse _ hevent
  case h_2 hbad => exact .refuse _ (holds_of_clk (findRecord_bad_clk hbad) hevent)
  case h_3 => exact quoteFound_endsWith (holds_of_clk (midEvent_keeps _).clk hevent) ..

theorem failIssue_endsWith (lane : Nat) (a : Answer) : EndsWith Q (failIssue lane a s) :=
  .answered a (holds_of_clk (voidQuote_keeps lane s).clk h)

theorem commitIssue_endsWith (lane : Nat) (q : Quote) (tid : Nat) (tokens : List Block) : EndsWith Q (commitIssue lane q tid tokens s) :=
  .retained h
    (fun _ ht => .retained ht (fun u hu => .answered _ (holds_of_clk (closeSale_clk lane q (commitStep q u)) hu)) fun _ hu =>
      failIssue_endsWith hu _ _)
    fun _ ht => failIssue_endsWith ht _ _

theorem proceedIssue_endsWith (lane : Nat) (q : Quote) : EndsWith Q (proceedIssue lane q s) := by
  have hissuing := holds_of_clk (setQuote_keeps lane (some { q with state := .issuing }) s).clk h
  unfold proceedIssue
  dsimp only
  refine .ite (failIssue_endsWith hissuing _ _) ?_
  split <;> rename_i t hform <;> have hset := hform ▸ formSet_clk ..
  · exact failIssue_endsWith (holds_of_clk hset hissuing) _ _
  · exact commitIssue_endsWith (holds_of_clk hset hissuing) ..

theorem answerNote_endsWith (lane : Nat) : EndsWith Q (answerNote lane s) := by
  have hnote := holds_of_clk (setNote_keeps lane .none s).clk h
  unfold answerNote
  split
  · exact .refuse _ hnote
  · exact .refuse _ hnote
  · exact .refuse _ h

theorem issueBody_endsWith (lane : Nat) : EndsWith Q (issueBody lane s) := by
  unfold issueBody
  split
  case h_1 => exact answerNote_endsWith h lane
  case h_2 =>
    split
    · exact .refuse _ h
    · exact .fault _
    · exact .ite (.refuse _ h) (proceedIssue_endsWith h ..)

theorem withdrawBody_endsWith (lane : Nat) : EndsWith Q (withdrawBody lane s) := by
  unfold withdrawBody
  split
  · exact answerNote_endsWith h lane
  · exact .ite (.fault _) (.answered _ (holds_of_clk (voidQuote_keeps lane s).clk h))

theorem countersignBody_endsWith (counter : Nat) : EndsWith Q (countersignBody counter s) := by
  refine .ite (.refuse _ h) ?_
  split
  · exact .ite (.answered _ (holds_of_clk (setQuote_keeps counter _ s).clk h)) (.refuse _ h)
  · exact .refuse _ h

theorem reprintKeyed_endsWith (meter : Nat) (r : Record) (i : LastIssue) (key : KeyRef) (change : Option KeyRef) :
    EndsWith Q (reprintKeyed meter r i key change s) := by
  unfold reprintKeyed
  split
  · exact .answered _ h
  · exact .ite (.refuse _ h) (.served h (formSet_clk ..) fun _ _ ht => .answered _ ht)

theorem reprintFound_endsWith (meter : Nat) (r : Record) : EndsWith Q (reprintFound meter r s) := by
  unfold reprintFound
  split
  · exact .refuse _ h
  · dsimp only
    split
    · split
      · exact reprintKeyed_endsWith h ..
      · exact .answered _ h
    · split
      · exact reprintKeyed_endsWith h ..
      · exact .answered _ h

theorem reprintBody_endsWith (meter : Nat) : EndsWith Q (reprintBody meter s) := by
  unfold reprintBody
  split
  case h_1 => exact .refuse _ h
  case h_2 hbad => exact .refuse _ (holds_of_clk (findRecord_bad_clk hbad) h)
  case h_3 => exact reprintFound_endsWith h ..

theorem verifySecond_endsWith (meter : Nat) (r : Record) (token : Block) : EndsWith Q (verifySecond meter r token s) := by
  unfold verifySecond
  split
  · exact .ite (.answered _ h) (.ite (.served h (attempt_clk ..) fun _ _ ht => .answered _ ht) (.answered _ h))
  · exact .answered _ h

theorem verifyFound_endsWith (meter : Nat) (r : Record) (token : Block) : EndsWith Q (verifyFound meter r token s) := by
  unfold verifyFound
  split
  · exact .answered _ h
  · refine .ite (.answered _ h) (.ite (.refuse _ h) (.served h (attempt_clk ..) fun d t ht => ?_))
    cases d with
    | some x => exact .answered _ ht
    | none => exact verifySecond_endsWith ht ..

theorem verifyBody_endsWith (meter token : Nat) : EndsWith Q (verifyBody meter token s) := by
  unfold verifyBody
  split
  case h_1 => exact .refuse _ h
  case h_2 hbad => exact .refuse _ (holds_of_clk (findRecord_bad_clk hbad) h)
  case h_3 => exact verifyFound_endsWith h ..

end Requests

end Sys2Proof.Machine.OfficeClock

/-! ## The clock never goes back: O46 -/

namespace Sys2Proof.Machine.OfficeClock

open Sys2Proof Sys2Proof.Machine Sys2Proof.Machine.TariffAndClock

/-! ### Clocks that may follow a clock -/

/-- Clock `d` may follow clock `c`: it is in its ranges, with neither the minute nor the month below `c`'s. -/
structure Follows (c d : Clk) : Prop where
  bounded : d.bounded
  minute_le : c.minute ≤ d.minute
  month_le : c.month ≤ d.month

theorem Follows.refl {c : Clk} (h : c.bounded) : Follows c c := ⟨h, Nat.le_refl _, Nat.le_refl _⟩

/-- The boundary and the mark of a waiting roll are no part of it. -/
theorem Follows.withBoundary {c d : Clk} (h : Follows c d) (b : Option Nat) (waits : Bool) :
    Follows c { d with boundary := b, rollWaiting := waits } :=
  ⟨h.bounded, h.minute_le, h.month_le⟩

/-- The month rolls forward, and to 4095 at most (R138). -/
theorem Follows.nextMonth {c d : Clk} (h : Follows c d) : Follows c { d with month := min (d.month + 1) 4095 } := by
  obtain ⟨⟨hsecond, hminute, hmonth⟩, hminutes, hmonths⟩ := h
  refine ⟨⟨hsecond, hminute, Nat.min_le_right _ _⟩, hminutes, ?_⟩
  simp only [Config.lastMonth] at hmonth ⊢
  omega

/-- A jump forward within the clock's range (R135). -/
theorem Follows.jump {c d : Clk} {minute : Nat} (h : Follows c d) (hforward : d.minute ≤ minute) (hlast : minute ≤ Config.lastMinute) :
    Follows c { d with minute := minute, second := 0 } := by
  obtain ⟨⟨-, -, hmonth⟩, hminutes, hmonths⟩ := h
  exact ⟨⟨Nat.zero_le _, hlast, hmonth⟩, Nat.le_trans hminutes hforward, hmonths⟩

/-- The clock's own count stays in the range and does not go back (R132, R133). -/
theorem Follows.tick {c d : Clk} (h : Follows c d) : Follows c d.tick := by
  obtain ⟨⟨hsecond, hminute, hmonth⟩, hminutes, hmonths⟩ := h
  unfold Clk.tick
  split
  case isTrue hruns => exact ⟨⟨hruns, hminute, hmonth⟩, hminutes, hmonths⟩
  case isFalse =>
    split
    case isTrue hmore => exact ⟨⟨Nat.zero_le _, hmore, hmonth⟩, Nat.le_succ_of_le hminutes, hmonths⟩
    case isFalse => exact ⟨⟨hsecond, hminute, hmonth⟩, hminutes, hmonths⟩

/-! ### The month roll and start-up (R138, R139, R164) -/

section Forward

variable {c : Clk} {s : State} (h : Follows c s.clk)
include h

theorem rollMonth_follows : Follows c (rollMonth s).2.clk := by
  have hrolled (t : State) (ht : Follows c t.clk) : Follows c (rolledMonth t).clk := by
    rw [rolledMonth_eq]
    exact ht.nextMonth.withBoundary none false
  exact retained_holds (left := Prod.snd) h hrolled fun t ht => ht.withBoundary t.clk.boundary true

theorem jumpClock_follows {minute : Nat} (hforward : s.clk.minute ≤ minute) (hlast : minute ≤ Config.lastMinute) :
    Follows c (jumpClock minute s).2.clk := by
  have hjump : Follows c (jumped minute s).clk := h.jump hforward hlast
  rw [jumpClock_eq]
  split
  · exact rollMonth_follows hjump
  · exact hjump

theorem startRoll_follows : Follows c (startRoll s).clk := by
  cases hz : s.fmn.zeroisePending with
  | true => rwa [startRoll_waits hz]
  | false =>
    cases hb : s.clk.boundaryReached with
    | false => rwa [startRoll_done hz hb]
    | true =>
      rw [startRoll_rolls hz hb]
      exact rollMonth_follows h

theorem retryStartRoll_follows : Follows c (retryStartRoll s).clk := by
  have hroll := rollMonth_follows h
  unfold retryStartRoll
  split <;> rename_i t ht <;> rw [ht] at hroll
  · exact startRoll_follows hroll
  · exact hroll

theorem startRebuild_follows : Follows c (startRebuild s).clk := by
  have hrebuilt : (rebuildFree s).clk = s.clk := State.withAst_clk s _
  exact startRoll_follows (holds_of_clk ((selfTest_clk _).trans hrebuilt) h)

theorem startDirectory_follows : Follows c (startDirectory s).clk := by
  have hchange := holds_of_clk (completeChange_clk (s.dir.entries.length + 1) s) h
  unfold startDirectory
  split <;> rename_i t ht <;> rw [ht] at hchange
  · exact startRebuild_follows hchange
  · exact hchange

theorem takeStep_follows (k : DirStep) : Follows c (takeStep k s).clk := by
  unfold takeStep
  split
  · have hstep := holds_of_clk (tryStep_clk s) h
    split <;> rename_i t ht <;> rw [ht] at hstep
    · split
      · exact startDirectory_follows hstep
      · exact hstep
    · exact hstep
  · exact h

theorem resumeStartUp_follows : Follows c (resumeStartUp s).clk := by
  unfold resumeStartUp
  split
  · exact h
  · split
    · exact startDirectory_follows h
    · exact startRoll_follows h
    · exact h

theorem startZeroise_follows : Follows c (startZeroise s).clk := by
  unfold startZeroise
  split
  · have hzeroise := holds_of_clk (zeroise_keeps s).clk h
    split <;> rename_i t ht <;> rw [ht] at hzeroise
    · exact startDirectory_follows hzeroise
    · exact hzeroise
  · exact startDirectory_follows h

/-! ### SET CLOCK and SET BOUNDARY (R135, R137) -/

/-- An earlier minute has been refused before the jump; the field's three bytes hold none past the clock's last. -/
theorem setClockBody_follows {minute : Nat} (hlast : minute ≤ Config.lastMinute) : EndsWith (Follows c) (setClockBody minute s) := by
  unfold setClockBody
  split
  case isTrue => exact .refuse _ h
  case isFalse hforward => exact .ite (.answered _ h) (.answered _ (jumpClock_follows h (Nat.le_of_not_lt hforward) hlast))

theorem setBoundaryBody_follows (clear minute : Nat) : EndsWith (Follows c) (setBoundaryBody clear minute s) := by
  have hset (b : Option Nat) : EndsWith (Follows c) (boundaryWith b s) := .writeOr h fun _ ht => .answered _ (ht.withBoundary b false)
  exact .ite (.refuse _ h) (.ite (hset _) (.ite (.answered _ h) (hset _)))

end Forward

/-! ### From the work to the command -/

theorem grantTo_clk {lane : Nat} {r : Request} {s g : State} (hg : grantTo lane r s = some g) : g.clk = s.clk := by
  obtain ⟨t, rest, ht, -, -, rfl⟩ := grantTo_some hg
  rw [granted_eq]
  subst ht
  split <;> rfl

/-- What a request leaves of the clock is what its own work leaves: its grant, its refusal by R150 and its reply leave the clock alone. -/
theorem serve_holds {Q : Clk → Prop} {i : Instr} {s t : State} {body : State → Served} (h : Q s.clk) (he : serve i s body = .next t)
    (hbody : ∀ g, Q g.clk → EndsWith Q (body g)) : Q t.clk := by
  obtain rfl | ⟨lane, r, g, st, -, hg, -, rfl⟩ | ⟨g, a, u, ht, hu, rfl⟩ := serve_cases he
  · exact h
  · exact holds_of_clk ((finish_clk _ _).trans (grantTo_clk hg)) h
  · have hg : Q g.clk := by
      rw [taken_frame ht]
      exact h
    exact holds_of_clk (finish_clk a u) ((hbody g hg).clk a u hu)

theorem next_holds {Q : Clk → Prop} {t u : State} (he : (.next u : Host.Outcome State Fault Refusal) = .next t) (hu : Q u.clk) :
    Q t.clk := by
  cases he
  exact hu

/-- What holds of the clock on both branches of a choice. -/
theorem ite_holds {Q : Clk → Prop} {p : Prop} [Decidable p] {s t : State} (hs : Q s.clk) (ht : Q t.clk) :
    Q (if p then s else t).clk := by
  split
  · exact hs
  · exact ht

theorem powered_holds {Q : Clk → Prop} {s t : State} {f : State → State} (h : Q s.clk) (he : powered s f = .next t)
    (hf : Q (f s).clk) : Q t.clk :=
  next_holds he (ite_holds hf h)

/-- A SET CLOCK's minute is of three bytes, so the clock can stand there. -/
theorem setClock_minute_le {lane tag minute : Nat} (h : (Instr.setClock lane tag minute).wf = true) : minute ≤ Config.lastMinute := by
  simp only [Instr.wf, inBytes, Bool.and_eq_true, decide_eq_true_eq] at h
  exact Nat.le_of_lt_succ h.2

/-- Every well-formed command leaves a clock that may follow the one it found: the clock's own commands because they go forward, the rest
because they leave the clock alone or, at start-up, roll the month. -/
theorem exec_follows {i : Instr} {s t : State} (hwf : i.wf = true) (hbounded : s.clk.bounded) (he : exec i s = .next t) :
    Follows s.clk t.clk := by
  have h := Follows.refl hbounded
  unfold exec at he
  cases i with
  | setClock => exact serve_holds h he fun _ hg => setClockBody_follows hg (setClock_minute_le hwf)
  | setBoundary => exact serve_holds h he fun _ hg => setBoundaryBody_follows hg _ _
  | query => exact serve_holds h he fun _ hg => queryBody_endsWith hg _
  | list => exact serve_holds h he fun _ hg => .answered _ hg
  | verify => exact serve_holds h he fun _ hg => verifyBody_endsWith hg _ _
  | quote => exact serve_holds h he fun _ hg => quoteBody_endsWith hg _ _ _
  | issue => exact serve_holds h he fun _ hg => issueBody_endsWith hg _
  | withdraw => exact serve_holds h he fun _ hg => withdrawBody_endsWith hg _
  | reprint => exact serve_holds h he fun _ hg => reprintBody_endsWith hg _
  | enrol => exact serve_holds h he fun _ hg => enrolBody_endsWith hg _ _ _ _ _ _
  | retire => exact serve_holds h he fun _ hg => retireBody_endsWith hg _ _
  | amend => exact serve_holds h he fun _ hg => amendBody_endsWith hg _ _
  | suspend => exact serve_holds h he fun _ hg => suspendBody_endsWith hg _
  | resume => exact serve_holds h he fun _ hg => resumeBody_endsWith hg _
  | restore => exact serve_holds h he fun _ hg => restoreBody_endsWith hg _ _
  | countersign => exact serve_holds h he fun _ hg => countersignBody_endsWith hg _
  | armPlans => exact serve_holds h he fun _ hg => armPlansBody_endsWith hg _ _
  | zoneSet => exact serve_holds h he fun _ hg => zoneSetBody_endsWith hg _ _
  | keyLoad => exact serve_holds h he fun _ hg => keyLoadBody_endsWith hg _ _ _
  | keyRoll => exact serve_holds h he fun _ hg => keyRollBody_endsWith hg _ _
  | grant => exact serve_holds h he fun _ hg => grantBody_endsWith hg _ _ _ _ _
  | statement => exact serve_holds h he fun _ hg => statementBody_endsWith hg _
  | ackFault => exact serve_holds h he fun _ hg => ackFaultBody_endsWith hg
  | setLink => exact serve_holds h he fun _ hg => setLinkBody_endsWith hg _ _ _
  | loadPlan | setCountersign | laneLevel | lock =>
    exact serve_holds h he fun _ hg => .ite (.refuse _ hg) (.ite (.refuse _ hg) (.writeOr hg fun _ ht => .answered _ ht))
  | setLimits =>
    exact serve_holds h he fun _ hg =>
      .ite (.refuse _ hg) (.ite (.refuse _ hg) (.ite (.refuse _ hg) (.writeOr hg fun _ ht => .answered _ ht)))
  | unlock =>
    exact serve_holds h he fun _ hg =>
      .ite (.answered _ hg) (.ite (.refuse _ hg) (.ite (.refuse _ hg) (.writeOr hg fun _ ht => .answered _ ht)))
  | setHold | status => exact serve_holds h he fun _ hg => .answered _ hg
  | zeroise => exact serve_holds h he fun g hg => .answered _ (holds_of_clk (zeroise_keeps g).clk hg)
  | unknownRequestKind => exact serve_holds h he fun _ hg => .refuse _ hg
  | frameReceived => exact next_holds he (ite_holds (holds_of_clk (arriveChars_clk _ s) h) h)
  | characterReceived => exact next_holds he (ite_holds (holds_of_clk (arriveChar_clk s _) h) h)
  | interByteTimeout =>
    refine powered_holds h he ?_
    split
    · exact h
    · exact holds_of_clk (abandon_clk _ s) h
    · exact holds_of_clk (abandon_clk _ s) h
    · exact holds_of_clk (abandon_clk _ s) h
    · exact h
  | linkAnswerPlaced =>
    refine powered_holds h he ?_
    split
    case h_1 r _ => exact ite_holds (holds_of_clk (takeHolding_clk (pushReply r (setAsm .hunt s))) h) h
    case h_2 => exact h
  | replySent => exact powered_holds h he (holds_of_clk (replySent_clk s) h)
  | linkBreak => exact powered_holds h he (holds_of_clk (takeBreak_clk s) h)
  | receiveWireReturnsHigh => exact powered_holds h he h
  | leaseExpiry => exact powered_holds h he (ite_holds (holds_of_clk (voidWaiting_keeps _ _ s).clk h) h)
  | deadlineExpiry => exact powered_holds h he (ite_holds h h)
  | monthRoll => exact powered_holds h he (ite_holds (rollMonth_follows h) h)
  | monthRollRetry => exact powered_holds h he (ite_holds (ite_holds (retryStartRoll_follows h) (rollMonth_follows h)) h)
  | clockEnd =>
    obtain ⟨-, hminute, hmonth⟩ := hbounded
    exact next_holds he (ite_holds ⟨⟨Nat.le_refl _, hminute, hmonth⟩, Nat.le_refl _, Nat.le_refl _⟩ h)
  | clockSecond => exact next_holds he h.tick
  | enrolMoveStep | placingStep | retireMoveStep | closingStep => exact powered_holds h he (takeStep_follows h _)
  | keyEraseRetry => exact powered_holds h he (ite_holds (retained_holds (left := id) h (fun _ ht => ht) fun _ ht => ht) h)
  | zeroiseRetry =>
    exact powered_holds h he (ite_holds (resumeStartUp_follows (holds_of_clk (zeroiseWrite_keeps s).clk h)) h)
  | tamperZeroise =>
    have htamper := holds_of_clk (assertTamper_clk s) h
    exact next_holds he (ite_holds (resumeStartUp_follows htamper) htamper)
  | tamperReleased => exact next_holds he h
  | powerOnReset => exact next_holds he (startZeroise_follows (h.withBoundary s.clk.boundary false))
  | supplyLoss => exact next_holds he (h.withBoundary s.clk.boundary false)

/-- Settles O46: the clock a command leaves may follow the one it found. -/
theorem timeNeverDecreases : Obligations.TimeNeverDecreases := by
  intro c s t hwf hbounded he
  obtain ⟨hrange, hminute, hmonth⟩ := exec_follows hwf hbounded he
  exact ⟨hrange, hminute, hmonth⟩

end Sys2Proof.Machine.OfficeClock

/-! ## The request catalogue, read both ways: O8 -/

namespace Sys2Proof.Machine.LanesAndArbiter

open Sys2Proof Sys2Proof.Machine

/-! ### Numbers as bytes (R175) -/

theorem beBytes_length (n v : Nat) : (beBytes n v).length = n := by
  induction n with
  | zero => rfl
  | succ n ih => simp [beBytes, ih]

/-- Bytes read on from a number already spelt: the number moves up by a byte for each. -/
theorem foldl_ofBytes (bs : List Byte) (a : Nat) :
    bs.foldl (fun a b => a * 256 + b.toNat) a = a * 256 ^ bs.length + ofBytes bs := by
  unfold ofBytes
  induction bs generalizing a with
  | nil => simp
  | cons b bs ih =>
    rw [List.foldl_cons, List.foldl_cons, ih (a * 256 + b.toNat), ih (0 * 256 + b.toNat), List.length_cons, Nat.zero_mul, Nat.zero_add,
      Nat.pow_succ', Nat.add_mul, Nat.mul_assoc, Nat.add_assoc]

theorem ofBytes_cons (b : Byte) (bs : List Byte) : ofBytes (b :: bs) = b.toNat * 256 ^ bs.length + ofBytes bs := by
  rw [← foldl_ofBytes, ofBytes, List.foldl_cons, Nat.zero_mul, Nat.zero_add]

/-- `n` bytes spell the number's last `n` digits to base 256. -/
theorem ofBytes_beBytes (n v : Nat) : ofBytes (beBytes n v) = v % 256 ^ n := by
  induction n with
  | zero => simp [beBytes, ofBytes, Nat.mod_one]
  | succ n ih =>
    rw [beBytes, Nat.pow_succ, Nat.mod_mul, ofBytes_cons, ih, beBytes_length, BitVec.toNat_ofNat, Nat.add_comm, Nat.mul_comm]

/-- A payload cut at its fields' widths gives the fields' values, when each fits its bytes. -/
theorem cutFields_fieldBytes (fs : List Field) (h : ∀ f ∈ fs, f.2 < 256 ^ f.1) :
    cutFields (fs.map Prod.fst) (fieldBytes fs) = some (fs.map Prod.snd) := by
  induction fs with
  | nil => rfl
  | cons f fs ih =>
    obtain ⟨hf, hfs⟩ := List.forall_mem_cons.mp h
    have hbytes : fieldBytes (f :: fs) = beBytes f.1 f.2 ++ fieldBytes fs := rfl
    simp [cutFields, hbytes, beBytes_length, ih hfs, ofBytes_beBytes, Nat.mod_eq_of_lt hf]

/-! ### Kinds and their codes -/

theorem kindOfCode_code (k : Kind) : Kind.ofCode k.code = some k := by cases k <;> rfl

theorem kindOfCode_eq_some {c : Nat} {k : Kind} : Kind.ofCode c = some k ↔ k.code = c := by
  refine ⟨fun h => ?_, ?_⟩
  · simpa using List.find?_some h
  · rintro rfl
    exact kindOfCode_code k

theorem catalogueCode_code (k : Kind) : catalogueCode k.code = true := by cases k <;> rfl

theorem catalogueCode_iff {c : Nat} : catalogueCode c = true ↔ 1 ≤ c ∧ c ≤ 7 ∨ 0x10 ≤ c ∧ c ≤ 0x29 := by
  simp only [catalogueCode, Bool.or_eq_true, Bool.and_eq_true, decide_eq_true_eq]

/-- A byte names no kind just when it is outside the catalogue. -/
theorem kindOfCode_eq_none {c : Nat} : Kind.ofCode c = none ↔ catalogueCode c = false := by
  refine ⟨fun h => Bool.eq_false_iff.mpr fun hc => ?_, fun h => Option.eq_none_iff_forall_ne_some.mpr fun k hk => ?_⟩
  · have hnamed : ∀ c ≤ 0x29, catalogueCode c = true → Kind.ofCode c ≠ none := by decide
    exact hnamed c (by have := catalogueCode_iff.mp hc; omega) hc h
  · rw [← kindOfCode_eq_some.mp hk, catalogueCode_code] at h
    cases h

/-! ### Requests and the commands they spell -/

/-- A request command is of a kind outside the catalogue, or is sent with the fields of its kind. -/
theorem request_cases {i : Instr} {lane : Nat} {r : Request} (h : i.request = some (lane, r)) :
    i = .unknownRequestKind lane r.tag r.kind r.payload ∨
      ∃ x, i.sent = some x ∧ x.lane = lane ∧ r = ⟨x.tag, x.kind.code, fieldBytes x.fields⟩ := by
  unfold Instr.request at h
  split at h
  · cases h
    exact .inl rfl
  · obtain ⟨x, hx, he⟩ := Option.map_eq_some_iff.mp h
    cases he
    exact .inr ⟨x, hx, rfl, rfl⟩

/-- What a command sends has the widths of its kind's fields, and its kind makes the command of the fields' values. -/
theorem command_of_sent {i : Instr} {x : Sent} (h : i.sent = some x) :
    x.fields.map Prod.fst = x.kind.widths ∧ x.kind.command x.lane x.tag (x.fields.map Prod.snd) = some i := by
  cases i <;> cases h <;> exact ⟨rfl, rfl⟩

/-- A request of the catalogue is well formed when its lane and tag are and each of its fields fits its bytes. -/
theorem wf_of_sent {i : Instr} {x : Sent} (h : i.sent = some x) :
    i.wf = (laneTag x.lane x.tag && x.fields.all fun f => inBytes f.1 f.2) := by
  cases i <;> cases h <;>
    simp [Instr.wf, AmendFields.wf, RestoreFields.wf, PlanFields.wf, ZoneFields.wf, Bool.and_assoc]

/-- Settles O8: a kind byte outside the catalogue names no kind, and the fields of one within it are cut where they were joined. -/
theorem requestRoundTrip : Obligations.RequestRoundTrip := by
  intro i lane r hwf hi
  obtain rfl | ⟨x, hx, rfl, rfl⟩ := request_cases hi
  · have hcode : catalogueCode r.kind = false := by
      simp only [Instr.wf, Bool.and_eq_true, Bool.not_eq_true'] at hwf
      exact hwf.1.2
    simp [Request.command, kindOfCode_eq_none.mpr hcode]
  · obtain ⟨hwidths, hcommand⟩ := command_of_sent hx
    rw [wf_of_sent hx, Bool.and_eq_true, List.all_eq_true] at hwf
    obtain ⟨-, hfit⟩ := hwf
    have hcut := cutFields_fieldBytes x.fields fun f hf => of_decide_eq_true (hfit f hf)
    simp [Request.command, kindOfCode_code, ← hwidths, hcut, hcommand]

end Sys2Proof.Machine.LanesAndArbiter

/-! ## LOCKED and NOT_PERMITTED, SET HOLD and LANE LEVEL: O5 and O48 -/

namespace Sys2Proof.Machine.LanesAndArbiter

open Sys2Proof Sys2Proof.Machine Sys2Proof.Machine.KeysAndLock

/-! ### The checks before a request's own (R150) -/

/-- Every request command is served: granted, passed by the checks of R150 and then its own work. -/
theorem exec_request {i : Instr} {x : Nat × Request} (h : i.request = some x) (s : State) :
    ∃ body, exec i s = serve i s body := by
  unfold exec
  cases i <;> cases h <;> exact ⟨_, rfl⟩

/-- The lanes and kinds of the catalogue's table of permissions (R150, R175). -/
theorem permitted_iff {lane kind : Nat} :
    permitted lane kind = true ↔
      lane = 0 ∧ (1 ≤ kind ∧ kind ≤ 3 ∨ 0x10 ≤ kind ∧ kind ≤ 0x29) ∨ lane ≠ 0 ∧ 1 ≤ kind ∧ kind ≤ 7 := by
  unfold permitted
  cases hk : Kind.ofCode kind with
  | some k =>
    obtain rfl := kindOfCode_eq_some.mp hk
    by_cases h0 : lane = 0 <;> cases k <;> simp [Kind.onSupervisor, Kind.onCounter, Kind.code, h0]
  | none =>
    have hcode := mt catalogueCode_iff.mpr (Bool.eq_false_iff.mp (kindOfCode_eq_none.mp hk))
    simp only [Bool.false_eq_true, false_iff]
    omega

theorem barred_eq (lane kind : Nat) (g : State) :
    barred lane kind g =
      if g.fmn.locked = true ∧ ¬ (lane = 0 ∧ (kind = 0x28 ∨ kind = 0x27)) then some .locked
      else if permitted lane kind then none else some .notPermitted := by
  unfold barred
  congr 1
  simp [Kind.code, Decidable.imp_iff_not_or]

theorem barred_locked {lane kind : Nat} {g : State} (hlocked : g.fmn.locked = true) (h : ¬ (lane = 0 ∧ (kind = 0x28 ∨ kind = 0x27))) :
    barred lane kind g = some .locked := by
  rw [barred_eq, if_pos ⟨hlocked, h⟩]

theorem barred_unlocked {lane kind : Nat} {g : State} (h : g.fmn.locked = true → lane = 0 ∧ (kind = 0x28 ∨ kind = 0x27)) :
    barred lane kind g = if permitted lane kind then none else some .notPermitted := by
  rw [barred_eq, if_neg fun hb => hb.2 (h hb.1)]

/-- A request granted that is answered by the checks of R150. -/
theorem exec_barred {i : Instr} {lane : Nat} {r : Request} {s g : State} {st : Status} (hi : i.request = some (lane, r))
    (hg : grantTo lane r s = some g) (hb : barred lane r.kind g = some st) : exec i s = .next (finish (Answer.bare st) g) := by
  obtain ⟨body, he⟩ := exec_request hi s
  rw [he, serve_barred body hi hg hb]

/-- Settles O5: the two checks in their order, and no kind outside the catalogue is permitted anywhere. -/
theorem lockedThenNotPermitted : Obligations.LockedThenNotPermitted := by
  refine ⟨fun i lane r s g hi hg => ⟨fun hlocked hkind => ?_, fun hkind => ⟨fun hp => ?_, fun hp => ?_⟩⟩,
    fun lane tag kind payload s g hkind hlocked hg => ?_⟩
  · exact exec_barred hi hg (barred_locked hlocked hkind)
  · have hb := barred_unlocked hkind
    rw [if_pos (permitted_iff.mpr hp)] at hb
    simp [taken, hi, hg, hb]
  · have hb := barred_unlocked hkind
    rw [if_neg (mt permitted_iff.mp hp)] at hb
    exact exec_barred hi hg hb
  · have hb : barred lane kind g = _ := barred_unlocked fun h => absurd h (by simp [hlocked])
    rw [if_neg (mt permitted_iff.mp (by omega))] at hb
    exact exec_barred rfl hg hb

/-! ### SET HOLD (R156) and LANE LEVEL (R144) -/

theorem exec_setHold_answered {lane tag level : Nat} {s g t : State} {a : Answer} (h : taken (.setHold lane tag level) s = some g)
    (hb : setHoldBody level g = answered a t) : exec (.setHold lane tag level) s = .next (finish a t) :=
  serve_answered h hb

theorem bit_decide (p : Prop) [Decidable p] : bit (decide p) = if p then 1 else 0 := by
  by_cases h : p <;> simp [bit, h]

theorem setHoldBody_eq (level : Nat) (s : State) :
    setHoldBody level s =
      answered (Answer.ok (fieldBytes [(1, s.fmn.hold), (1, if 6 < level then 6 else level), (1, if 6 < level then 1 else 0)]))
        (s.withFmn { s.fmn with hold := if 6 < level then 6 else level }) := by
  have hnew : min level Config.maxHold = if 6 < level then 6 else level := by
    unfold Config.maxHold
    split <;> omega
  have hclamped : bit (decide (Config.maxHold < level)) = if 6 < level then 1 else 0 := bit_decide _
  unfold setHoldBody
  rw [hclamped, hnew]

theorem laneLevelBody_outOfRange {counter level : Nat} {s : State} (hlock : s.fmn.configLock = false)
    (h : counter = 0 ∨ 8 < counter ∨ 6 < level) : laneLevelBody counter level s = refuse .outOfRange s := by
  simp only [laneLevelBody, hlock, h, Bool.false_eq_true, if_false, if_true]

theorem laneLevelBody_written {counter level : Nat} {s u : State} (hlock : s.fmn.configLock = false) (hlow : 1 ≤ counter)
    (hhigh : counter ≤ 8) (hlevel : level ≤ 6) (hw : drawWrite s = (false, u)) :
    laneLevelBody counter level s =
      answered (Answer.ok (fieldBytes [(1, counter), (1, s.levelAt counter), (1, level)]))
        (u.withLqa { u.lqa with levels := put u.lqa.levels (counter - 1) level }) := by
  have hrange : ¬ (counter = 0 ∨ 8 < counter ∨ 6 < level) := by omega
  have hsame : u.levelAt counter = s.levelAt counter := by
    rw [drawWrite_frame hw]
    rfl
  simp only [laneLevelBody, hlock, hrange, Bool.false_eq_true, if_false, writeOr_made _ hw, hsame]

/-- Settles O48: SET HOLD's one outcome, and LANE LEVEL's range and write. -/
theorem holdAndLaneLevels : Obligations.HoldAndLaneLevels := by
  refine ⟨fun lane tag level s g ht => exec_setHold_answered ht (setHoldBody_eq level g),
    fun lane tag counter level s g u ht hlock => ⟨fun hrange => ?_, fun hlow hhigh hlevel hw => ?_⟩⟩
  · exact exec_configWork_answered (.inl rfl) ht (laneLevelBody_outOfRange hlock hrange)
  · exact exec_configWork_answered (.inl rfl) ht (laneLevelBody_written hlock hlow hhigh hlevel hw)

end Sys2Proof.Machine.LanesAndArbiter

/-! ## The arbiter: O4 and O7 -/

namespace Sys2Proof.Machine.LanesAndArbiter

open Sys2Proof Sys2Proof.Machine Sys2Proof.Machine.VendingFloat

/-! ### Queues and pointers read after a write -/

theorem queueAt_setQueue_same {lane : Nat} (q : List Request) (s : State) (h : lane ≤ 8) : (setQueue lane q s).queueAt lane = q :=
  pick_put_same _ _ (by omega)

theorem queueAt_setQueue_other {lane k : Nat} (q : List Request) (s : State) (h : k ≠ lane) :
    (setQueue lane q s).queueAt k = s.queueAt k :=
  pick_put_other _ _ h

theorem queueAt_granted (lane k : Nat) (r : Request) (rest : List Request) (s : State) :
    (granted lane r rest s).queueAt k = (setQueue lane rest s).queueAt k := by
  unfold granted
  dsimp only
  split <;> rfl

theorem granted_serving (lane : Nat) (r : Request) (rest : List Request) (s : State) :
    (granted lane r rest s).serving = some ⟨lane, r.tag, r.kind, true, none⟩ := by
  rw [granted_eq]
  rfl

/-- The supervisor's grant points no level's turn; a counter lane's points its own level's (R148). -/
theorem granted_pointers (lane : Nat) (r : Request) (rest : List Request) (s : State) :
    (granted lane r rest s).lqa.pointers = if lane = 0 then s.lqa.pointers else put s.lqa.pointers (s.levelAt lane - 1) lane := by
  unfold granted
  dsimp only
  split <;> rfl

section Pointers

variable {lane v : Nat} {r : Request} {rest : List Request} {s : State}

theorem pointerAt_granted_same (h0 : lane ≠ 0) (hlow : 1 ≤ s.levelAt lane) (hhigh : s.levelAt lane ≤ 6) :
    (granted lane r rest s).pointerAt (s.levelAt lane) = lane := by
  rw [State.pointerAt, granted_pointers, if_neg h0]
  exact pick_put_same _ _ (by omega)

theorem pointerAt_granted_other (hlow : lane ≠ 0 → 1 ≤ s.levelAt lane) (hv : v ≠ s.levelAt lane) (h1 : 1 ≤ v) :
    (granted lane r rest s).pointerAt v = s.pointerAt v := by
  rw [State.pointerAt, granted_pointers]
  split
  · rfl
  · rename_i h0
    have hlow' := hlow h0
    exact pick_put_other _ _ (by omega)

end Pointers

/-- The blocks a grant touches, field by field (R147, R148). -/
theorem granted_frame (lane : Nat) (r : Request) (rest : List Request) (s : State) :
    granted lane r rest s =
      (s.withLqa { s.lqa with
        queues := (granted lane r rest s).lqa.queues, pointers := (granted lane r rest s).lqa.pointers }).withServing
        (granted lane r rest s).serving := by
  unfold granted
  dsimp only
  split <;> rfl

/-! ### Lanes that are ready (R145, R146) -/

theorem supervisorWaits_iff {s : State} :
    s.supervisorWaits = true ↔
      s.dir.change.isSome = true ∧ ∃ r rest, s.queueAt 0 = r :: rest ∧ (r.kind = 0x10 ∨ r.kind = 0x11 ∨ r.kind = 0x15) := by
  unfold State.supervisorWaits
  cases s.queueAt 0 <;> simp [Kind.code, or_assoc]

theorem ready_iff {s : State} {k : Nat} :
    s.ready k = true ↔ s.fmn.hold < s.levelAt k ∧ ∃ r rest, s.queueAt k = r :: rest ∧
      ¬ (k = 0 ∧ s.dir.change.isSome = true ∧ (r.kind = 0x10 ∨ r.kind = 0x11 ∨ r.kind = 0x15)) := by
  have hparts : s.ready k = true ↔ s.queueAt k ≠ [] ∧ s.fmn.hold < s.levelAt k ∧ ¬ (k = 0 ∧ s.supervisorWaits = true) := by
    simp [State.ready, and_assoc, Decidable.imp_iff_not_or]
  rw [hparts, supervisorWaits_iff]
  cases hq : s.queueAt k with
  | nil => simp
  | cons r rest =>
    by_cases h0 : k = 0
    · subst h0
      simp [hq]
    · simp [h0]

/-! ### The turn within a level (R148) -/

/-- From any pointer the turn meets every counter lane. -/
theorem mem_turnOrder {p k : Nat} : k ∈ turnOrder p ↔ k ∈ counterLanes := by
  rw [mem_counterLanes]
  simp only [turnOrder, List.mem_map, List.mem_range]
  constructor
  · rintro ⟨i, -, rfl⟩
    omega
  · rintro ⟨h0, h8⟩
    exact ⟨(k + 7 + 7 * p) % 8, by omega, by omega⟩

/-- What is found first stands before, or is, whatever else could have been found. -/
theorem idxOf_le_of_find? {p : Nat → Bool} {l : List Nat} {a b : Nat} (ha : l.find? p = some a) (hb : p b = true) :
    l.idxOf a ≤ l.idxOf b := by
  obtain ⟨hpa, before, after, rfl, hbefore⟩ := List.find?_eq_some_iff_append.mp ha
  have hnot : ∀ x, p x = true → x ∉ before := fun x hx hmem => by simpa [hx] using hbefore x hmem
  rw [List.idxOf_append, List.idxOf_append, if_neg (hnot a hpa), if_neg (hnot b hb), List.idxOf_cons_self]
  omega

theorem turn_some {s : State} {v k : Nat} (h : s.turn v = some k) : k ∈ counterLanes ∧ s.levelAt k = v ∧ s.ready k = true := by
  have hfound := List.find?_some h
  rw [Bool.and_eq_true, beq_iff_eq] at hfound
  exact ⟨mem_turnOrder.mp (List.mem_of_find?_eq_some h), hfound⟩

/-- The lane whose turn it is comes before every other lane of the level that is ready. -/
theorem turn_first {s : State} {v k j : Nat} (h : s.turn v = some k) (hlevel : s.levelAt j = v) (hj : s.ready j = true) :
    (turnOrder (s.pointerAt v)).idxOf k ≤ (turnOrder (s.pointerAt v)).idxOf j :=
  idxOf_le_of_find? h (by simp [hlevel, hj])

theorem turn_ne_none {s : State} {j : Nat} (hmem : j ∈ counterLanes) (hj : s.ready j = true) : s.turn (s.levelAt j) ≠ none := by
  intro hnone
  have hpassed := List.find?_eq_none.mp hnone j (mem_turnOrder.mpr hmem)
  simp [hj] at hpassed

/-! ### The lane granted next (R145, R147) -/

/-- The level whose turn is taken: the highest of 6 to 1 at which a lane is ready. -/
theorem findTurn_some {s : State} {k : Nat} (h : [6, 5, 4, 3, 2, 1].findSome? s.turn = some k) :
    ∃ v, 1 ≤ v ∧ v ≤ 6 ∧ s.turn v = some k ∧ ∀ w, v < w → w ≤ 6 → s.turn w = none := by
  obtain ⟨higher, v, lower, hlevels, hturn, hnone⟩ := List.findSome?_eq_some_iff.mp h
  have hmem : ∀ w, w ∈ higher ∨ w = v ∨ w ∈ lower ↔ 1 ≤ w ∧ w ≤ 6 := by
    intro w
    rw [← List.mem_cons, ← List.mem_append, ← hlevels]
    simp only [List.mem_cons, List.not_mem_nil, or_false]
    omega
  have hfalling : List.Pairwise (· > ·) (higher ++ v :: lower) := by
    rw [← hlevels]
    decide
  obtain ⟨-, hlower, -⟩ := List.pairwise_append.mp hfalling
  obtain ⟨hbelow, -⟩ := List.pairwise_cons.mp hlower
  obtain ⟨h1, h6⟩ := (hmem v).mp (.inr (.inl rfl))
  refine ⟨v, h1, h6, hturn, fun w hw hw6 => ?_⟩
  obtain hin | rfl | hin := (hmem w).mpr ⟨by omega, hw6⟩
  · exact hnone w hin
  · omega
  · have := hbelow w hin
    omega

/-- All that the arbiter's choice comes to: the supervisor lane, or the turn of the highest level with a lane ready. -/
theorem nextLane_some {s : State} {k : Nat} (h : s.nextLane = some k) :
    s.running = true ∧ s.serving = none ∧ s.placeFree = true ∧
      (k = 0 ∧ s.ready 0 = true ∨
        s.ready 0 = false ∧ ∃ v, 1 ≤ v ∧ v ≤ 6 ∧ s.turn v = some k ∧ ∀ w, v < w → w ≤ 6 → s.turn w = none) := by
  unfold State.nextLane at h
  split at h
  · rename_i hopen
    simp only [Bool.and_eq_true, Option.isNone_iff_eq_none] at hopen
    obtain ⟨⟨hrunning, hserving⟩, hplace⟩ := hopen
    refine ⟨hrunning, hserving, hplace, ?_⟩
    split at h
    · rename_i h0
      cases h
      exact .inl ⟨rfl, h0⟩
    · rename_i h0
      exact .inr ⟨Bool.eq_false_iff.mpr h0, findTurn_some h⟩
  · cases h

theorem ready_of_nextLane {s : State} {k : Nat} (h : s.nextLane = some k) : s.ready k = true := by
  obtain ⟨-, -, -, ⟨rfl, h0⟩ | ⟨-, v, -, -, hturn, -⟩⟩ := nextLane_some h
  · exact h0
  · exact (turn_some hturn).2.2

/-- A counter lane chosen stands at a level of 1 to 6, whose turn it has, and no lane of a higher level is ready. -/
theorem nextLane_counter {s : State} {k : Nat} (h : s.nextLane = some k) (hk : k ≠ 0) :
    k ∈ counterLanes ∧ s.ready 0 = false ∧ 1 ≤ s.levelAt k ∧ s.levelAt k ≤ 6 ∧ s.turn (s.levelAt k) = some k ∧
      ∀ w, s.levelAt k < w → w ≤ 6 → s.turn w = none := by
  obtain ⟨-, -, -, ⟨rfl, -⟩ | ⟨h0, v, h1, h6, hturn, hhigher⟩⟩ := nextLane_some h
  · exact absurd rfl hk
  · obtain ⟨hmem, rfl, -⟩ := turn_some hturn
    exact ⟨hmem, h0, h1, h6, hturn, hhigher⟩

theorem nextLane_isSome {s : State} (hrunning : s.running = true) (hserving : s.serving = none) (hplace : s.placeFree = true)
    (h : s.ready 0 = true ∨ ∃ j ∈ counterLanes, s.ready j = true ∧ s.levelAt j ≤ 6) : s.nextLane.isSome = true := by
  have hchoice : s.nextLane = if s.ready 0 then some 0 else [6, 5, 4, 3, 2, 1].findSome? s.turn := by
    simp [State.nextLane, hrunning, hserving, hplace]
  rw [hchoice]
  split
  · rfl
  · rename_i h0
    obtain h0' | ⟨j, hmem, hj, h6⟩ := h
    · exact absurd h0' h0
    · obtain ⟨hlevel, -⟩ := ready_iff.mp hj
      rw [List.findSome?_isSome_iff]
      refine ⟨s.levelAt j, ?_, Option.isSome_iff_ne_none.mpr (turn_ne_none hmem hj)⟩
      simp only [List.mem_cons, List.not_mem_nil]
      omega

/-- Settles O7: a higher level's ready lane would have had its turn, and within the level the first one met has it. -/
theorem arbiterPicksHighest : Obligations.ArbiterPicksHighest := by
  refine fun s => ⟨fun k => ready_iff, fun k h => ⟨ready_of_nextLane h, fun hk => ?_⟩, nextLane_isSome⟩
  obtain ⟨hmem, h0, -, -, hturn, hhigher⟩ := nextLane_counter h hk
  refine ⟨hmem, h0, fun j hjmem hj hj6 => ⟨?_, fun hsame => turn_first hturn hsame hj⟩⟩
  exact Nat.le_of_not_lt fun hlt => turn_ne_none hjmem hj (hhigher _ hlt hj6)

/-! ### What a grant takes (R147, R149) -/

/-- The state the arbiter chooses in differs from the one found in the request's own queue alone, which it joined if that was empty
(notes/assumptions/1). -/
theorem grantTo_head {lane : Nat} {r : Request} {s g : State} (h : grantTo lane r s = some g) :
    ∃ queues t rest, t = s.withLqa { s.lqa with queues := queues } ∧ (∀ k, k ≠ lane → t.queueAt k = s.queueAt k) ∧
      (s.queueAt lane = r :: rest ∨ s.queueAt lane = [] ∧ rest = []) ∧ t.queueAt lane = r :: rest ∧ t.nextLane = some lane ∧
      g = granted lane r rest t := by
  obtain ⟨t, rest, ht, hhead, hnext, hg⟩ := grantTo_some h
  split at ht <;> subst ht
  · rename_i hempty
    have hjoined := queueAt_setQueue_same [r] s (grantTo_lane_le h)
    obtain ⟨-, rfl⟩ := List.cons.inj (hjoined.symm.trans hhead)
    exact ⟨_, _, [], rfl, fun k hk => queueAt_setQueue_other _ s hk, .inr ⟨List.isEmpty_iff.mp hempty, rfl⟩, hhead, hnext, hg⟩
  · exact ⟨_, _, rest, rfl, fun _ _ => rfl, .inl hhead, hhead, hnext, hg⟩

/-- With the engine free, a free place is one of sixteen (R149). -/
theorem replies_lt_of_placeFree {s : State} (hserving : s.serving = none) (h : s.placeFree = true) : s.olk.replies.length < 16 := by
  simpa [State.placeFree, hserving, Config.replyPlaces] using h

/-- Settles O4: the arbiter's conditions in the state it chooses in, and the grant's effects on it. -/
theorem grantTakesRequest : Obligations.GrantTakesRequest := by
  intro i s g ht
  obtain ⟨lane, r, hi, hgrant, -⟩ := taken_some ht
  have hlane := grantTo_lane_le hgrant
  obtain ⟨queues, t, rest, rfl, hothers, hfound, hhead, hnext, rfl⟩ := grantTo_head hgrant
  obtain ⟨hrunning, hserving, hplace, -⟩ := nextLane_some hnext
  obtain ⟨hsupply, hstart⟩ := Bool.and_eq_true_iff.mp hrunning
  obtain ⟨hhold, r', rest', hhead', hdir⟩ := ready_iff.mp (ready_of_nextLane hnext)
  obtain ⟨rfl, rfl⟩ := List.cons.inj (hhead'.symm.trans hhead)
  refine ⟨lane, r', rest', hi, hfound, hsupply, of_decide_eq_true hstart, hserving, replies_lt_of_placeFree hserving hplace, hhold,
    fun h0 hkind => ?_, granted_serving .., ?_, fun k hk => ?_, fun h0 => ?_, fun v hv h1 => ?_, granted_frame ..⟩
  · exact Option.not_isSome_iff_eq_none.mp fun hsome => hdir ⟨h0, hsome, hkind⟩
  · rw [queueAt_granted, queueAt_setQueue_same _ _ hlane]
  · rw [queueAt_granted, queueAt_setQueue_other _ _ hk, hothers k hk]
  · obtain ⟨-, -, hlow, hhigh, -, -⟩ := nextLane_counter hnext h0
    exact pointerAt_granted_same h0 hlow hhigh
  · refine pointerAt_granted_other (fun h0 => ?_) hv h1
    obtain ⟨-, -, hlow, -, -, -⟩ := nextLane_counter hnext h0
    exact hlow

end Sys2Proof.Machine.LanesAndArbiter

/-! ## Steps, replies and their sending: O1, O2 and O6 -/

namespace Sys2Proof.Machine.LanesAndArbiter

open Sys2Proof Sys2Proof.Machine

/-! ### The front command and the idle part (R147, notes/assumptions/2) -/

/-- Settles O1. -/
theorem stepRunsFrontCommand : Obligations.StepRunsFrontCommand := by
  intro c rest s h
  simp only [Machine.step, h]

theorem step_idle {s : State} (h : s.pending = []) : Machine.step s = idle s := by
  simp only [Machine.step, h]

theorem idle_answer {s : State} (h : s.answerFits = true) : idle s = exec .linkAnswerPlaced s := by
  simp [idle, h]

theorem idle_grants {s : State} {lane : Nat} {r : Request} {rest : List Request} (h : s.answerFits = false)
    (hlane : s.nextLane = some lane) (hq : s.queueAt lane = r :: rest) : idle s = exec (r.command lane) s := by
  simp [idle, h, hlane, hq]

theorem idle_sends {s : State} (h : s.answerFits = false) (hlane : s.nextLane = none) : idle s = .next (txAdvance s) := by
  simp [idle, h, hlane]

/-! ### The bytes of a reply frame (R173, R175) -/

/-- A CRC as two bytes, high byte first. -/
theorem beBytes_crc (c : Crc) : beBytes 2 c.toNat = [c.extractLsb' 8 8, c.extractLsb' 0 8] := by
  have hhigh : BitVec.ofNat 8 (c.toNat / 256) = c.extractLsb' 8 8 := by
    apply BitVec.eq_of_toNat_eq
    simp [Nat.shiftRight_eq_div_pow]
  have hlow : BitVec.ofNat 8 c.toNat = c.extractLsb' 0 8 := by
    apply BitVec.eq_of_toNat_eq
    simp
  simp [beBytes, hhigh, hlow]

theorem crcBit_eq (c : Crc) (b : Bool) : crcBit c b = if c.msb = b then c <<< 1 else (c <<< 1) ^^^ 0x1021 := by
  unfold crcBit
  by_cases h : c.msb = b <;> simp [h]

/-- The CRC over bytes is the CRC over their bits, each byte's most significant first. -/
theorem crc16_eq (bs : List Byte) :
    crc16 bs = (bs.flatMap fun b => [7, 6, 5, 4, 3, 2, 1, 0].map b.getLsbD).foldl
      (fun (c : Crc) b => if c.msb = b then c <<< 1 else (c <<< 1) ^^^ 0x1021) 0xFFFF := by
  rw [List.foldl_flatMap]
  unfold crc16
  congr 1
  funext c b
  rw [List.foldl_map]
  unfold crcByte
  congr 1
  funext c i
  exact crcBit_eq c _

theorem frame_eq (r : Reply) (body : List Byte)
    (h : body = BitVec.ofNat 8 (r.lane * 16 + r.tag) :: BitVec.ofNat 8 r.kind :: BitVec.ofNat 8 r.status.code :: r.payload) :
    r.frame = 0x5A :: BitVec.ofNat 8 body.length :: body ++ [(crc16 body).extractLsb' 8 8, (crc16 body).extractLsb' 0 8] := by
  rw [← beBytes_crc, h]
  rfl

/-! ### The transmitter (R173) -/

theorem two_le_frame_length (r : Reply) : 2 ≤ r.frame.length := by
  simp [Reply.frame]

theorem txLoad_held (frame : List Byte) (c : Option SentChar) (b : Byte) (k : Nat) : Tx.load frame ⟨c, some b, k⟩ = ⟨c, some b, k⟩ := rfl

/-- An empty holding byte takes the frame's next byte, if one is left. -/
theorem txLoad_empty (frame : List Byte) (c : Option SentChar) (k : Nat) :
    Tx.load frame ⟨c, none, k⟩ = ⟨c, frame[k]?, if k < frame.length then k + 1 else k⟩ := by
  unfold Tx.load
  by_cases hk : k < frame.length
  · simp [hk]
  · simp [hk]

theorem txPush_busy (l : LinkSettings) (c : SentChar) (b : Option Byte) (k : Nat) : Tx.push l ⟨some c, b, k⟩ = ⟨some c, b, k⟩ := rfl

theorem txPush_empty (l : LinkSettings) (b : Option Byte) (k : Nat) : Tx.push l ⟨none, b, k⟩ = ⟨b.map l.char, none, k⟩ := rfl

theorem fillTx_noReply {o : Olk} (h : o.replies = []) : fillTx o = { o with tx := o.tx.push o.settings } := by
  simp [fillTx, h]

theorem fillTx_reply {o : Olk} {r : Reply} {rest : List Reply} (h : o.replies = r :: rest) :
    fillTx o = { o with tx := ((o.tx.load r.frame).push o.settings).load r.frame } := by
  simp [fillTx, h]

/-- A reply that joins an empty queue is the one the transmitter is filled from. -/
theorem fillTx_first {o : Olk} (p : Reply) (h : o.replies = []) :
    (fillTx { o with replies := o.replies ++ [p] }).tx = ((o.tx.load p.frame).push o.settings).load p.frame := by
  simp [fillTx, h]

/-- A reply that joins behind others leaves a transmitter in the midst of the first as it is. -/
theorem fillTx_behind {o : Olk} {r : Reply} {rest : List Reply} {c : SentChar} {k : Nat} (p : Reply) (h : o.replies = r :: rest)
    (ht : o.tx = ⟨some c, r.frame[k]?, min (k + 1) r.frame.length⟩) :
    (fillTx { o with replies := o.replies ++ [p] }).tx = o.tx := by
  have hreplies : o.replies ++ [p] = r :: (rest ++ [p]) := by simp [h]
  rw [fillTx_busy (o := { o with replies := o.replies ++ [p] }) hreplies ht]

/-- An empty transmitter takes the frame's first two bytes. -/
theorem tx_begins (r : Reply) (l : LinkSettings) :
    ((Tx.load r.frame ⟨none, none, 0⟩).push l).load r.frame = ⟨r.frame[0]?.map l.char, r.frame[1]?, 2⟩ := by
  have hlength := two_le_frame_length r
  rw [txLoad_empty, if_pos (by omega), txPush_empty, txLoad_empty, if_pos (by omega)]

/-- A transmitter that still sends a character takes the frame's first byte alone. -/
theorem tx_begins_busy (r : Reply) (l : LinkSettings) (c : SentChar) :
    ((Tx.load r.frame ⟨some c, none, 0⟩).push l).load r.frame = ⟨some c, r.frame[0]?, 1⟩ := by
  have hlength := two_le_frame_length r
  have hfirst : r.frame[0]? = some r.frame[0] := List.getElem?_eq_getElem (by omega)
  rw [txLoad_empty, if_pos (by omega), hfirst, txPush_busy, txLoad_held]

/-- The shift register empty, it takes the held byte, and the holding byte the frame's next. -/
theorem tx_goesOn {r : Reply} {k : Nat} (l : LinkSettings) (hk : k < r.frame.length) :
    ((Tx.load r.frame ⟨none, r.frame[k]?, min (k + 1) r.frame.length⟩).push l).load r.frame =
      ⟨r.frame[k]?.map l.char, r.frame[k + 1]?, min (k + 2) r.frame.length⟩ := by
  have hheld : r.frame[k]? = some r.frame[k] := List.getElem?_eq_getElem hk
  have htaken : min (k + 1) r.frame.length = k + 1 := by omega
  rw [hheld, htaken, txLoad_held, txPush_empty, txLoad_empty]
  congr 1
  split <;> omega

/-! ### Sending (R173) -/

theorem txAdvance_off {s : State} (h : s.supply = false ∨ s.olk.tx.shift = none) : txAdvance s = s := by
  obtain h | h := h <;> simp [txAdvance, h]

theorem txAdvance_noReply {s : State} {c : SentChar} {k : Nat} (hs : s.supply = true) (hr : s.olk.replies = [])
    (ht : s.olk.tx = ⟨some c, none, k⟩) : txAdvance s = s.withOlk { s.olk with tx := ⟨none, none, k⟩ } := by
  have hlast : s.olk.atLastByte = false := by simp [Olk.atLastByte, hr]
  simp only [txAdvance, hs, ht, hlast, Option.isSome_some, Bool.and_self, Bool.false_eq_true, if_true, if_false]
  rw [fillTx_noReply (by exact hr)]
  rfl

section Replying

variable {s : State} {r : Reply} {rest : List Reply} {c : SentChar} {k : Nat}

theorem txAdvance_midst (hs : s.supply = true) (hr : s.olk.replies = r :: rest)
    (ht : s.olk.tx = ⟨some c, r.frame[k]?, min (k + 1) r.frame.length⟩) (hk : k < r.frame.length) :
    txAdvance s = s.withOlk { s.olk with
      tx := ⟨r.frame[k]?.map s.olk.settings.char, r.frame[k + 1]?, min (k + 2) r.frame.length⟩ } := by
  have hlast : s.olk.atLastByte = false := by simp [Olk.atLastByte, hr, ht, hk]
  simp only [txAdvance, hs, ht, hlast, Option.isSome_some, Bool.and_self, Bool.false_eq_true, if_true, if_false]
  rw [fillTx_reply (by exact hr)]
  simp only [tx_goesOn _ hk]

theorem txAdvance_last (hs : s.supply = true) (hr : s.olk.replies = r :: rest)
    (ht : s.olk.tx = ⟨some c, r.frame[k]?, min (k + 1) r.frame.length⟩) (hk : k = r.frame.length) : txAdvance s = replySent s := by
  have hlast : s.olk.atLastByte = true := by simp [Olk.atLastByte, hr, ht, hk]
  simp only [txAdvance, hs, ht, hlast, Option.isSome_some, Bool.and_self, if_true]

end Replying

/-- Settles O2: the order of an idle step's work, the reply frame's bytes, and the statuses' numbers. -/
theorem idleStep : Obligations.IdleStep := by
  refine ⟨fun s hp => ?_, fun r body crc hbody hcrc => ?_, rfl⟩
  · rw [step_idle hp]
    refine ⟨idle_answer, fun ha lane r rest hlane hq => idle_grants ha hlane hq, fun ha hlane => ?_⟩
    rw [idle_sends ha hlane]
    refine ⟨rfl, fun hoff => ?_, fun hs c k => ⟨fun hr ht => ?_, fun r rest hr ht => ⟨fun hk => ?_, fun hk => ?_⟩⟩⟩
    · rw [txAdvance_off hoff]
    · rw [txAdvance_noReply hs hr ht]
    · rw [txAdvance_midst hs hr ht hk]
    · rw [txAdvance_last hs hr ht hk]
      exact (powered_on replySent hs).symm
  · rw [← crc16_eq] at hcrc
    rw [hcrc]
    exact frame_eq r body hbody

/-! ### A reply placed (R149, R173) -/

theorem finish_placed {a : Answer} {s : State} {v : Serving} (hv : s.serving = some v) (hheld : v.placeHeld = true) :
    (finish a s).olk =
      fillTx { s.olk with replies := s.olk.replies ++ [⟨v.lane, v.tag, v.kind, a.status, a.payload, a.settings⟩] } := by
  simp [finish, hv, hheld, pushReply]

theorem finish_discarded {a : Answer} {s : State} {v : Serving} (hv : s.serving = some v) (hheld : v.placeHeld = false) :
    (finish a s).olk = s.olk := by
  simp [finish, hv, hheld]

/-- An answer changes of the link the reply queue and the transmitter alone. -/
theorem finish_olk (a : Answer) (s : State) :
    (finish a s).olk = { s.olk with replies := (finish a s).olk.replies, tx := (finish a s).olk.tx } := by
  unfold finish
  dsimp only
  split
  · split
    · simp only [pushReply, State.withOlk_olk]
      rw [fillTx_eq]
      rfl
    · rfl
  · rfl

/-- Settles O6: the place held or taken away, and the transmitter filled from the first reply. -/
theorem replyPlaced : Obligations.ReplyPlaced := by
  intro a s v p hv hp
  refine ⟨?_, fun hheld => ?_, finish_discarded hv⟩
  · rw [← finish_olk]
    exact finish_frame a s
  · have holk := finish_placed (a := a) hv hheld
    rw [← hp] at holk
    rw [holk]
    refine ⟨fillTx_replies _, fun hnone => ?_, fun r rest c k hr ht => ?_⟩
    · rw [fillTx_first p hnone]
      refine ⟨fun ht => ?_, fun c ht => ?_⟩
      · rw [ht, tx_begins]
      · rw [ht, tx_begins_busy]
    · exact fillTx_behind p hr ht

end Sys2Proof.Machine.LanesAndArbiter

/-! ## A request's frame, character by character: O9 -/

namespace Sys2Proof.Machine.LanesAndArbiter

open Sys2Proof Sys2Proof.Machine

/-! ### A frame's bytes (R167, R175) -/

theorem crc_joined (c : Crc) : (c.extractLsb' 8 8 ++ c.extractLsb' 0 8 : Crc) = c := by
  have h := BitVec.extractLsb'_append_extractLsb'_eq_extractLsb' (x := c) (len₂ := 8) (show 8 = 0 + 8 from rfl)
  exact h.trans BitVec.extractLsb'_eq_self

theorem laneTagByte_toNat {lane tag : Nat} (hlane : lane ≤ 8) (htag : tag ≤ 15) : (laneTagByte lane tag).toNat = lane * 16 + tag := by
  rw [laneTagByte, BitVec.toNat_ofNat]
  omega

theorem laneOf_laneTagByte {lane tag : Nat} (hlane : lane ≤ 8) (htag : tag ≤ 15) : laneOf (laneTagByte lane tag) = lane := by
  rw [laneOf, laneTagByte_toNat hlane htag]
  omega

theorem tagOf_laneTagByte {lane tag : Nat} (hlane : lane ≤ 8) (htag : tag ≤ 15) : tagOf (laneTagByte lane tag) = tag := by
  rw [tagOf, laneTagByte_toNat hlane htag]
  omega

/-- The body of a request's frame: the lane and tag, the kind, the payload. -/
def requestBody (lane : Nat) (r : Request) : List Byte := laneTagByte lane r.tag :: BitVec.ofNat 8 r.kind :: r.payload

theorem requestFrame_eq (lane : Nat) (r : Request) :
    requestFrame lane r =
      0xA5 :: BitVec.ofNat 8 (requestBody lane r).length ::
        (requestBody lane r ++ [(crc16 (requestBody lane r)).extractLsb' 8 8, (crc16 (requestBody lane r)).extractLsb' 0 8]) := by
  rw [← beBytes_crc]
  rfl

/-- Characters that carry a frame are one for its mark, one for its length, those of its body and two for its CRC. -/
theorem chars_of_requestFrame {chars : List LineChar} {lane : Nat} {r : Request} (h : chars.map (·.data) = requestFrame lane r) :
    ∃ mark count body high low, chars = mark :: count :: (body ++ [high, low]) ∧ mark.data = 0xA5 ∧
      count.data = BitVec.ofNat 8 (requestBody lane r).length ∧ body.map (·.data) = requestBody lane r ∧
      high.data ++ low.data = crc16 (requestBody lane r) := by
  rw [requestFrame_eq] at h
  obtain ⟨mark, _, rfl, hmark, h⟩ := List.map_eq_cons_iff.mp h
  obtain ⟨count, _, rfl, hcount, h⟩ := List.map_eq_cons_iff.mp h
  obtain ⟨body, _, rfl, hbody, h⟩ := List.map_eq_append_iff.mp h
  obtain ⟨high, _, rfl, hhigh, h⟩ := List.map_eq_cons_iff.mp h
  obtain ⟨low, _, rfl, hlow, h⟩ := List.map_eq_cons_iff.mp h
  obtain rfl := List.map_eq_nil_iff.mp h
  exact ⟨mark, count, body, high, low, rfl, hmark, hcount, hbody, by rw [hhigh, hlow, crc_joined]⟩

/-! ### The assembler along a frame (R166, R167) -/

/-- The part between two characters of a frame: the shift register empty, the assembler in a state. -/
def assembling (s : State) (a : Assembler) : State := s.withOlk { s.olk with shift := none, asm := a }

theorem setAsm_assembling (s : State) (a b : Assembler) : setAsm b (assembling s a) = assembling s b := rfl

/-- A character received by an assembler that does not wait is taken at once. -/
theorem arriveChar_taken {s : State} (c : LineChar) (hhold : s.olk.hold = none) (hasm : s.olk.asm.isWaiting = false) :
    arriveChar s c = takeByte ⟨c.data, charError s.olk.rxSettings c, false⟩ (s.withOlk { s.olk with shift := none, hold := none }) := by
  simp [arriveChar, takeHolding, hhold, hasm]

/-- Received without error, it comes to the assembler unmarked. -/
theorem arriveChar_good {s : State} {c : LineChar} (hhold : s.olk.hold = none) (hasm : s.olk.asm.isWaiting = false)
    (hc : charError s.olk.rxSettings c = false) : arriveChar s c = takeByte ⟨c.data, false, false⟩ (assembling s s.olk.asm) := by
  have holk : ({ s.olk with shift := none, hold := none } : Olk) = { s.olk with shift := none, asm := s.olk.asm } := by rw [← hhold]
  rw [arriveChar_taken c hhold hasm, hc, holk]
  rfl

section Frame

variable {s : State} {c : LineChar}

/-- The same between two characters, where the settings are the present ones. -/
theorem arriveChar_assembling {a : Assembler} (hhold : s.olk.hold = none) (ha : a.isWaiting = false)
    (hc : charError s.olk.settings c = false) : arriveChar (assembling s a) c = takeByte ⟨c.data, false, false⟩ (assembling s a) :=
  arriveChar_good (s := assembling s a) hhold ha hc

theorem takeByte_mark (h : s.olk.asm = .hunt) : takeByte ⟨0xA5, false, false⟩ (assembling s s.olk.asm) = assembling s .length := by
  simp only [takeByte, assembling, State.withOlk_olk, h]
  rfl

theorem takeByte_count {b : Byte} (hlow : 2 ≤ b.toNat) (hhigh : b.toNat ≤ 126) :
    takeByte ⟨b, false, false⟩ (assembling s .length) = assembling s (.body b.toNat [] false) := by
  have hgood : 2 ≤ b.toNat ∧ b.toNat ≤ 126 ∧ (!(false || false)) = true := ⟨hlow, hhigh, rfl⟩
  exact if_pos hgood

theorem takeByte_body {n : Nat} {taken : List Byte} {b : Byte} :
    takeByte ⟨b, false, false⟩ (assembling s (.body n taken false)) =
      assembling s (if n ≤ taken.length + 1 then .check (taken ++ [b]) none false else .body n (taken ++ [b]) false) := by
  rw [apply_ite (assembling s)]
  rfl

/-- The characters of a body are appended one after another, and the last of them ends it. -/
theorem foldl_body {n : Nat} (hhold : s.olk.hold = none) (chars : List LineChar) (taken : List Byte)
    (hc : ∀ c ∈ chars, charError s.olk.settings c = false) (hne : chars ≠ []) (hn : taken.length + chars.length = n) :
    chars.foldl arriveChar (assembling s (.body n taken false)) =
      assembling s (.check (taken ++ chars.map (·.data)) none false) := by
  induction chars generalizing taken with
  | nil => exact absurd rfl hne
  | cons c chars ih =>
    obtain ⟨hfirst, hrest⟩ := List.forall_mem_cons.mp hc
    rw [List.length_cons] at hn
    rw [List.foldl_cons, arriveChar_assembling hhold rfl hfirst, takeByte_body]
    cases chars with
    | nil =>
      rw [if_pos (by simp only [List.length_nil] at hn; omega)]
      rfl
    | cons d chars =>
      rw [List.length_cons] at hn
      have hn' : (taken ++ [c.data]).length + (d :: chars).length = n := by
        simp only [List.length_append, List.length_cons, List.length_nil]
        omega
      rw [if_neg (by omega), ih _ hrest (List.cons_ne_nil _ _) hn', List.append_assoc]
      rfl

/-- A frame whose characters are received without error comes whole to its judging, with the body they carry (R167). -/
theorem foldl_frame {mark count high low : LineChar} {body : List LineChar} (hhunt : s.olk.asm = .hunt) (hhold : s.olk.hold = none)
    (hfirst : charError s.olk.rxSettings mark = false)
    (hrest : ∀ c ∈ count :: (body ++ [high, low]), charError s.olk.settings c = false) (hmark : mark.data = 0xA5)
    (hcount : count.data.toNat = body.length) (hlow : 2 ≤ body.length) (hhigh : body.length ≤ 126) :
    (mark :: count :: (body ++ [high, low])).foldl arriveChar s =
      frameComplete (body.map (·.data)) high.data low.data false
        (assembling s (.check (body.map (·.data)) (some high.data) false)) := by
  obtain ⟨hcountOk, hrest⟩ := List.forall_mem_cons.mp hrest
  obtain ⟨hbodyOk, hcrcOk⟩ := List.forall_mem_append.mp hrest
  have hhighOk := hcrcOk high (by simp)
  have hlowOk := hcrcOk low (by simp)
  have hne : body ≠ [] := List.ne_nil_of_length_pos (by omega)
  rw [List.foldl_cons, arriveChar_good hhold (by rw [hhunt]; rfl) hfirst, hmark, takeByte_mark hhunt]
  rw [List.foldl_cons, arriveChar_assembling hhold rfl hcountOk, takeByte_count (by omega) (by omega), hcount]
  rw [List.foldl_append, foldl_body hhold body [] hbodyOk hne (Nat.zero_add _), List.nil_append]
  rw [List.foldl_cons, arriveChar_assembling hhold rfl hhighOk]
  exact arriveChar_assembling hhold rfl hlowOk

end Frame

/-! ### The frame judged (R168) -/

/-- A frame whose CRC agrees, on an open lane with room in its queue and with its kind's payload length, is its lane's last request. -/
theorem frameComplete_enters {lane : Nat} {r : Request} {high low : Byte} {s : State} (hlane : lane ≤ 8) (htag : r.tag ≤ 15)
    (hkind : r.kind ≤ 255) (hlength : wrongLength r.kind r.payload = false) (hopen : lane ≠ 0 → s.levelAt lane ≠ 0)
    (hroom : (s.queueAt lane).length < 4) (hcrc : high ++ low = crc16 (requestBody lane r)) :
    frameComplete (requestBody lane r) high low false s = setQueue lane (s.queueAt lane ++ [r]) (setAsm .hunt s) := by
  have hkindByte : (BitVec.ofNat 8 r.kind).toNat = r.kind := by
    rw [BitVec.toNat_ofNat]
    omega
  have hnoStatus : frameStatus lane r.kind r.payload false s = none := by
    have hclosed : ¬ (lane ≠ 0 ∧ s.levelAt lane = 0) := fun h => hopen h.1 h.2
    have hfull : ¬ Config.queuePlaces ≤ (s.queueAt lane).length := Nat.not_le.mpr hroom
    simp only [frameStatus, hlength, hclosed, hfull, Bool.false_eq_true, if_false]
  have hundamaged : (false || decide (crc16 (requestBody lane r) ≠ high ++ low)) = false := by simp [hcrc]
  have hjudged : frameComplete (requestBody lane r) high low false s =
      judge (laneTagByte lane r.tag) (BitVec.ofNat 8 r.kind).toNat r.payload
        (false || decide (crc16 (requestBody lane r) ≠ high ++ low)) s := rfl
  rw [hjudged, hundamaged, hkindByte]
  simp only [judge, laneOf_laneTagByte hlane htag, tagOf_laneTagByte hlane htag, hnoStatus]
  rw [if_neg (by omega)]

/-- Settles O9: the assembler along the frame's characters, and then the judging of the body they carry. -/
theorem frameEntersQueue : Obligations.FrameEntersQueue := by
  intro lane r s chars hlane htag hkind hpayload hlength hreceiving hhunt hhold hopen hroom hchars hfirst hrest
  obtain ⟨mark, count, body, high, low, rfl, hmark, hcount, hbody, hcrc⟩ := chars_of_requestFrame hchars
  have hbodyLength : body.length = r.payload.length + 2 := by
    rw [← List.length_map (·.data), hbody]
    rfl
  have hcountNat : count.data.toNat = body.length := by
    rw [hcount, ← hbody, List.length_map, BitVec.toNat_ofNat]
    omega
  have hframe := foldl_frame hhunt hhold (hfirst mark (by simp)) (fun c hc => hrest c hc) hmark hcountNat (by omega) (by omega)
  have henters := frameComplete_enters (s := assembling s (.check (requestBody lane r) (some high.data) false)) hlane htag hkind hlength
    hopen hroom hcrc
  rw [hbody, henters, setAsm_assembling] at hframe
  have hhunting : assembling s .hunt = s.withOlk { s.olk with shift := none } := by rw [← hhunt]; rfl
  simp only [exec, execFrameReceived, hreceiving, if_true, hframe, hhunting]
  rfl

end Sys2Proof.Machine.LanesAndArbiter

/-! ## What the fault monitor makes of a fault, and UNLOCK: O47 and O50 -/

namespace Sys2Proof.Machine.FaultsAndLock

open Sys2Proof Sys2Proof.Machine Sys2Proof.Machine.KeysAndLock

/-! ### The cases of R155 -/

theorem level_eq (k : FaultKind) : k.level = if k = .recordCheck then 2 else if k = .storeWrite then 5 else 6 := by
  cases k <;> rfl

theorem any_level_six {es : List HoldEntry} : (es.any fun e => e.level == 6) = true ↔ ∃ e ∈ es, e.level = 6 := by
  simp only [List.any_eq_true, beq_iff_eq]

section Cases

variable {k : FaultKind} {m : Fmn}

theorem faultCase_locked (h : m.locked = true) : faultCase k m = .reportedOnly := if_pos h

/-- A level-6 fault beside a level-6 entry locks the part whatever the hold level. -/
theorem faultCase_secondSix (h : m.locked = false) (hsix : k.level = 6 ∧ ∃ e ∈ m.stack, e.level = 6) : faultCase k m = .lockedPart := by
  rw [← any_level_six] at hsix
  simp only [faultCase, h, hsix, Bool.false_eq_true, if_false, and_self, if_true]

/-- A fault that is no second level-6 one is judged by the hold level, and then by the room on the stack. -/
theorem faultCase_byHold (h : m.locked = false) (hsix : ¬ (k.level = 6 ∧ ∃ e ∈ m.stack, e.level = 6)) :
    faultCase k m = if m.hold < k.level then (if 2 ≤ m.stack.length then .lockedPart else .pushed) else .reportedOnly := by
  rw [← any_level_six] at hsix
  simp only [faultCase, h, hsix, Bool.false_eq_true, if_false]

theorem faultCase_lockedPart (h : m.locked = false)
    (hc : k.level = 6 ∧ (∃ e ∈ m.stack, e.level = 6) ∨ m.hold < k.level ∧ 2 ≤ m.stack.length) : faultCase k m = .lockedPart := by
  by_cases hsix : k.level = 6 ∧ ∃ e ∈ m.stack, e.level = 6
  · exact faultCase_secondSix h hsix
  · obtain ⟨habove, hfull⟩ := hc.resolve_left hsix
    rw [faultCase_byHold h hsix, if_pos habove, if_pos hfull]

/-! ### What each case leaves of the monitor -/

theorem arrive_reportedOnly {minute : Nat} (h : faultCase k m = .reportedOnly) :
    m.arrive k minute = { m with latest := some ⟨k, k.level, minute, .reportedOnly⟩ } := by
  simp only [Fmn.arrive, h]

theorem arrive_lockedPart {minute : Nat} (h : faultCase k m = .lockedPart) :
    m.arrive k minute = { m with locked := true, latest := some ⟨k, k.level, minute, .lockedPart⟩ } := by
  simp only [Fmn.arrive, h]

theorem arrive_pushed {minute : Nat} (h : faultCase k m = .pushed) :
    m.arrive k minute =
      { m with stack := ⟨m.hold, k, k.level⟩ :: m.stack, hold := k.level, latest := some ⟨k, k.level, minute, .pushed⟩ } := by
  simp only [Fmn.arrive, h]

end Cases

/-- Settles O47: the case each arrival meets, and what that case leaves. -/
theorem faultArrives : Obligations.FaultArrives := by
  intro k minute level m hlevel
  obtain rfl : level = k.level := hlevel.trans (level_eq k).symm
  refine ⟨fun hlocked => arrive_reportedOnly (faultCase_locked hlocked),
    fun hopen => ⟨fun hc => arrive_lockedPart (faultCase_lockedPart hopen hc), fun hsix habove hroom => arrive_pushed ?_,
      fun hsix hbelow => arrive_reportedOnly ?_⟩⟩
  · rw [faultCase_byHold hopen hsix, if_pos habove, if_neg (Nat.not_le.mpr hroom)]
  · rw [faultCase_byHold hopen hsix, if_neg (Nat.not_lt.mpr hbelow)]

/-! ### UNLOCK (R160) -/

section Unlock

variable {key : Nat} {s : State}

theorem unlockBody_clear (h : s.fmn.configLock = false) : unlockBody key s = answered (Answer.ok [0]) s := by
  simp only [unlockBody, h, Bool.not_false, if_true]

theorem unlockBody_keyless (h : s.fmn.configLock = true) (hkey : s.fmn.lockKey = 0) : unlockBody key s = refuse .configLocked s := by
  simp only [unlockBody, h, hkey, Bool.not_true, Bool.false_eq_true, if_false, if_true]

theorem unlockBody_wrongKey (h : s.fmn.configLock = true) (hkey : s.fmn.lockKey ≠ 0) (hother : BitVec.ofNat 64 key ≠ s.fmn.lockKey) :
    unlockBody key s = refuse .badAuthenticator s := by
  simp only [unlockBody, h, hkey, hother, Bool.not_true, Bool.false_eq_true, if_false, ne_eq, not_false_eq_true, if_true]

/-- The stored key comes to the one write that clears the lock. -/
theorem unlockBody_rightKey (h : s.fmn.configLock = true) (hkey : s.fmn.lockKey ≠ 0) (hsame : BitVec.ofNat 64 key = s.fmn.lockKey) :
    unlockBody key s = writeOr s fun t => answered (Answer.ok [0]) (t.withFmn { t.fmn with configLock := false }) := by
  simp only [unlockBody, h, hkey, hsame, Bool.not_true, Bool.false_eq_true, if_false, ne_eq, not_true_eq_false]

end Unlock

theorem exec_unlock_answered {lane tag key : Nat} {s g t : State} {a : Answer} (h : taken (.unlock lane tag key) s = some g)
    (hb : unlockBody key g = answered a t) : exec (.unlock lane tag key) s = .next (finish a t) :=
  serve_answered h hb

/-- Settles O50: UNLOCK's checks in their order, then its write, made or failed. -/
theorem unlockClears : Obligations.UnlockClears := by
  intro lane tag key s g u ht
  refine ⟨fun hclear => exec_unlock_answered ht (unlockBody_clear hclear),
    fun hlock => ⟨fun hkey => exec_unlock_answered ht (unlockBody_keyless hlock hkey),
      fun hkey hother => exec_unlock_answered ht (unlockBody_wrongKey hlock hkey hother),
      fun hkey hsame => ⟨fun hw => ?_, fun hw => ?_⟩⟩⟩
  · exact exec_unlock_answered ht ((unlockBody_rightKey hlock hkey hsame).trans (writeOr_made _ hw))
  · exact exec_unlock_answered ht ((unlockBody_rightKey hlock hkey hsame).trans (writeOr_failed _ hw))

end Sys2Proof.Machine.FaultsAndLock

/-! ## Nothing but a power-on reset or the loss of supply unlocks the part: O55 -/

namespace Sys2Proof.Machine.FaultsAndLock

open Sys2Proof Sys2Proof.Machine Sys2Proof.Machine.TariffAndClock Sys2Proof.Machine.LanesAndArbiter

/-! ### What leaves the fault monitor alone (chapters 04 and 10) -/

theorem locked_of_fmn {s t : State} (hfmn : t.fmn = s.fmn) (h : s.fmn.locked = true) : t.fmn.locked = true := hfmn ▸ h

theorem voidWaiting_fmn (n : Note) (lane : Nat) (s : State) : (voidWaiting n lane s).fmn = s.fmn := by
  rw [voidWaiting_eq]
  simp only [State.withFreeReads_fmn, State.withFlt_fmn, State.withAst_fmn, State.withQtb_fmn, State.withLqa_fmn]

theorem strike_fmn (n : Note) (s : State) : (strike n s).fmn = s.fmn := by
  unfold strike
  rw [voidAll_eq]
  simp only [State.withServing_fmn, State.withFreeReads_fmn, State.withFlt_fmn, State.withAst_fmn, State.withQtb_fmn, State.withLqa_fmn]

theorem takeBreak_fmn (s : State) : (takeBreak s).fmn = s.fmn := by
  unfold takeBreak
  split
  · rfl
  · unfold linkBreakReset
    dsimp only
    rw [State.withLqa_fmn, strike_fmn]
    rfl

theorem giveAnswer_fmn (r : Reply) (s : State) : (giveAnswer r s).fmn = s.fmn := by
  unfold giveAnswer
  split <;> rfl

theorem judge_fmn (first : Byte) (kind : Nat) (payload : List Byte) (damaged : Bool) (s : State) :
    (judge first kind payload damaged s).fmn = s.fmn := by
  unfold judge
  split
  · rfl
  · split
    · exact giveAnswer_fmn _ s
    · rfl

theorem takeByte_fmn (b : Held) (s : State) : (takeByte b s).fmn = s.fmn := by
  unfold takeByte
  dsimp only
  split
  case h_5 =>
    unfold frameComplete
    split
    · exact judge_fmn _ _ _ _ s
    · rfl
  case h_4 => rfl
  case h_6 => rfl
  all_goals split <;> rfl

theorem takeHolding_fmn (s : State) : (takeHolding s).fmn = s.fmn := by
  unfold takeHolding
  split
  · rfl
  · split
    · rfl
    · exact takeByte_fmn _ _

theorem arriveChar_fmn (s : State) (c : LineChar) : (arriveChar s c).fmn = s.fmn := by
  unfold arriveChar
  split
  · rfl
  · exact takeHolding_fmn _

theorem arriveChars_fmn (cs : List LineChar) (s : State) : (cs.foldl arriveChar s).fmn = s.fmn := by
  induction cs generalizing s with
  | nil => rfl
  | cons c cs ih => exact (ih _).trans (arriveChar_fmn s c)

theorem abandon_fmn (body : List Byte) (s : State) : (abandon body s).fmn = s.fmn := by
  unfold abandon
  split
  · rfl
  · split
    · rfl
    · exact giveAnswer_fmn _ s

theorem replySent_fmn (s : State) : (replySent s).fmn = s.fmn := by
  unfold replySent
  split
  · rfl
  · split <;> rfl

theorem grantTo_fmn {lane : Nat} {r : Request} {s g : State} (hg : grantTo lane r s = some g) : g.fmn = s.fmn := by
  obtain ⟨t, rest, ht, -, -, rfl⟩ := grantTo_some hg
  rw [granted_eq]
  subst ht
  split <;> rfl

/-! ### Work on a LOCKED part -/

theorem ite_locked {p : Prop} [Decidable p] {s t : State} (hs : s.fmn.locked = true) (ht : t.fmn.locked = true) :
    (if p then s else t).fmn.locked = true := by
  split
  · exact hs
  · exact ht

section Locked

variable {s : State} (h : s.fmn.locked = true)
include h

theorem raise_locked (k : FaultKind) : (raise k s).fmn.locked = true := arrive_locked k _ _ h

/-- A retained write, read by the state it leaves: its fault, if it fails, unlocks nothing. -/
theorem retained_locked {α : Type} {left : α → State} {made failed : State → α}
    (hmade : ∀ t : State, t.fmn.locked = true → (left (made t)).fmn.locked = true)
    (hfailed : ∀ t : State, t.fmn.locked = true → (left (failed t)).fmn.locked = true) :
    (left (retained s made failed)).fmn.locked = true := by
  obtain ⟨v, hw | hw⟩ := retained_cases s made failed
  · rw [hw]
    exact hmade _ h
  · rw [hw]
    exact hfailed _ (raise_locked (s := s.withEnv v) h .storeWrite)

theorem selfTest_locked : (selfTest s).2.fmn.locked = true := by
  have hdraw : (drawTest s).2.fmn.locked = true := by
    unfold drawTest
    split <;> exact h
  unfold selfTest
  split <;> rename_i t ht <;> rw [ht] at hdraw
  · exact hdraw
  · exact raise_locked (s := t.withTcu ⟨false, 0⟩) hdraw .cipherTest

/-- A zeroise leaves the part state as it is (R161). -/
theorem zeroiseWrite_locked : (zeroiseWrite s).2.fmn.locked = true :=
  retained_locked (left := Prod.snd) h (fun _ ht => ht) fun _ ht => ht

theorem zeroise_locked : (zeroise s).2.fmn.locked = true := by
  unfold zeroise
  refine zeroiseWrite_locked ?_
  rw [strike_fmn]
  exact h

theorem assertTamper_locked : (assertTamper s).fmn.locked = true :=
  ite_locked h (ite_locked (zeroise_locked (s := s.withTamper true) h) h)

/-! ### The month roll, the directory's steps and start-up (R11, R12, R138, R164) -/

theorem rollMonth_locked : (rollMonth s).2.fmn.locked = true :=
  retained_locked (left := Prod.snd) h (fun _ ht => ite_locked ht ht) fun _ ht => ht

theorem startRoll_locked : (startRoll s).fmn.locked = true := by
  cases hz : s.fmn.zeroisePending with
  | true => rwa [startRoll_waits hz]
  | false =>
    cases hb : s.clk.boundaryReached with
    | false => rwa [startRoll_done hz hb]
    | true =>
      rw [startRoll_rolls hz hb]
      exact rollMonth_locked h

theorem retryStartRoll_locked : (retryStartRoll s).fmn.locked = true := by
  have hroll := rollMonth_locked h
  unfold retryStartRoll
  split <;> rename_i t ht <;> rw [ht] at hroll
  · exact startRoll_locked hroll
  · exact hroll

theorem tryStep_locked : (tryStep s).2.fmn.locked = true := by
  refine retained_locked (left := Prod.snd) h (fun t ht => ?_) fun _ ht => ht
  unfold stepMade
  dsimp only
  split <;> exact ht

theorem completeChange_locked (fuel : Nat) : (completeChange fuel s).2.fmn.locked = true := by
  induction fuel generalizing s with
  | zero => exact h
  | succ fuel ih =>
    unfold completeChange
    split
    · exact h
    · have hstep := tryStep_locked h
      split <;> rename_i t ht <;> rw [ht] at hstep
      · exact ih hstep
      · exact hstep

theorem startDirectory_locked : (startDirectory s).fmn.locked = true := by
  have hchange := completeChange_locked h (s.dir.entries.length + 1)
  unfold startDirectory
  split <;> rename_i t ht <;> rw [ht] at hchange
  · exact startRoll_locked (selfTest_locked (s := rebuildFree t) hchange)
  · exact hchange

theorem takeStep_locked (k : DirStep) : (takeStep k s).fmn.locked = true := by
  unfold takeStep
  split
  · have hstep := tryStep_locked h
    split <;> rename_i t ht <;> rw [ht] at hstep
    · exact ite_locked (startDirectory_locked hstep) hstep
    · exact hstep
  · exact h

theorem resumeStartUp_locked : (resumeStartUp s).fmn.locked = true := by
  unfold resumeStartUp
  split
  · exact h
  · split
    · exact startDirectory_locked h
    · exact startRoll_locked h
    · exact h

/-! ### Requests on a LOCKED part (R150, R158) -/

/-- A LOCKED part takes STATUS and ZEROISE on the supervisor lane, and no other request. -/
theorem taken_kind_of_locked {i : Instr} {lane : Nat} {r : Request} {g : State} (hi : i.request = some (lane, r))
    (ht : taken i s = some g) : lane = 0 ∧ (r.kind = 0x28 ∨ r.kind = 0x27) := by
  obtain ⟨lane', r', hi', hg, hb⟩ := taken_some ht
  cases hi.symm.trans hi'
  refine Decidable.byContradiction fun hkind => ?_
  rw [barred_locked (locked_of_fmn (grantTo_fmn hg) h) hkind] at hb
  cases hb

/-- Serving keeps the part LOCKED if the request's own work, where it is taken, does. -/
theorem serve_locked {i : Instr} {t : State} {body : State → Served} (he : serve i s body = .next t)
    (hbody : ∀ g a u, taken i s = some g → g.fmn.locked = true → body g = .next (a, u) → u.fmn.locked = true) :
    t.fmn.locked = true := by
  obtain rfl | ⟨lane, r, g, st, -, hg, -, rfl⟩ | ⟨g, a, u, ht, hu, rfl⟩ := serve_cases he
  · exact h
  · exact locked_of_fmn ((finish_fmn _ _).trans (grantTo_fmn hg)) h
  · have hg : g.fmn.locked = true := by
      rw [taken_frame ht]
      exact h
    exact locked_of_fmn (finish_fmn a u) (hbody g a u ht hg hu)

/-- Every request of another kind is refused by the checks of R150, so its own work does not come into it. -/
theorem exec_refused_locked {i : Instr} {lane : Nat} {r : Request} {t : State} (hi : i.request = some (lane, r))
    (he : exec i s = .next t) (hkind : r.kind ≠ 0x28 ∧ r.kind ≠ 0x27) : t.fmn.locked = true := by
  obtain ⟨body, hserve⟩ := exec_request hi s
  obtain ⟨hstatus, hzeroise⟩ := hkind
  refine serve_locked h (hserve.symm.trans he) fun g a u ht _ _ => ?_
  obtain ⟨-, hk | hk⟩ := taken_kind_of_locked h hi ht
  · exact absurd hk hstatus
  · exact absurd hk hzeroise

theorem powered_locked {f : State → State} {t : State} (he : powered s f = .next t) (hf : (f s).fmn.locked = true) :
    t.fmn.locked = true := by
  cases he
  exact ite_locked hf h

end Locked

/-! ### From the work to the command -/

theorem next_locked {t u : State} (he : (.next u : Host.Outcome State Fault Refusal) = .next t) (hu : u.fmn.locked = true) :
    t.fmn.locked = true := by
  cases he
  exact hu

/-- A LOCKED part refuses every request but STATUS and ZEROISE, and these keep it LOCKED. -/
theorem exec_request_locked {i : Instr} {s t : State} {x : Nat × Request} (h : s.fmn.locked = true) (hi : i.request = some x)
    (he : exec i s = .next t) : t.fmn.locked = true := by
  cases i with
  | status | unknownRequestKind =>
    unfold exec at he
    refine serve_locked h he fun g a u _ hg hu => ?_
    cases hu
    exact hg
  | zeroise =>
    unfold exec at he
    refine serve_locked h he fun g a u _ hg hu => ?_
    simp only [zeroiseBody, answered, Host.Outcome.next.injEq, Prod.mk.injEq] at hu
    obtain ⟨-, rfl⟩ := hu
    exact zeroise_locked hg
  | query | list | verify | quote | issue | withdraw | reprint | enrol | retire | amend | suspend | resume | restore | countersign
  | loadPlan | armPlans | zoneSet | keyLoad | keyRoll | setClock | setBoundary | grant | statement | setHold | ackFault | laneLevel
  | setCountersign | setLimits | lock | unlock | setLink =>
    cases hi
    exact exec_refused_locked h rfl he ⟨by simp [Kind.code], by simp [Kind.code]⟩
  | _ => cases hi

/-- No event but a power-on reset and the loss of supply clears the part state. -/
theorem exec_event_locked {i : Instr} {s t : State} (h : s.fmn.locked = true) (hi : i.request = none) (hreset : i ≠ .powerOnReset)
    (hloss : i ≠ .supplyLoss) (he : exec i s = .next t) : t.fmn.locked = true := by
  unfold exec at he
  cases i with
  | powerOnReset => exact absurd rfl hreset
  | supplyLoss => exact absurd rfl hloss
  | frameReceived => exact next_locked he (ite_locked (locked_of_fmn (arriveChars_fmn _ s) h) h)
  | characterReceived => exact next_locked he (ite_locked (locked_of_fmn (arriveChar_fmn s _) h) h)
  | interByteTimeout =>
    refine powered_locked h he ?_
    split
    · exact h
    · exact locked_of_fmn (abandon_fmn _ s) h
    · exact locked_of_fmn (abandon_fmn _ s) h
    · exact locked_of_fmn (abandon_fmn _ s) h
    · exact h
  | linkAnswerPlaced =>
    refine powered_locked h he ?_
    split
    case h_1 r _ => exact ite_locked (locked_of_fmn (takeHolding_fmn (pushReply r (setAsm .hunt s))) h) h
    case h_2 => exact h
  | replySent => exact powered_locked h he (locked_of_fmn (replySent_fmn s) h)
  | linkBreak => exact powered_locked h he (locked_of_fmn (takeBreak_fmn s) h)
  | leaseExpiry => exact powered_locked h he (ite_locked (locked_of_fmn (voidWaiting_fmn _ _ s) h) h)
  | deadlineExpiry => exact powered_locked h he (ite_locked h h)
  | monthRoll => exact powered_locked h he (ite_locked (rollMonth_locked h) h)
  | monthRollRetry => exact powered_locked h he (ite_locked (ite_locked (retryStartRoll_locked h) (rollMonth_locked h)) h)
  | clockEnd => exact next_locked he (ite_locked h h)
  | enrolMoveStep | placingStep | retireMoveStep | closingStep => exact powered_locked h he (takeStep_locked h _)
  | keyEraseRetry => exact powered_locked h he (ite_locked (retained_locked (left := id) h (fun _ ht => ht) fun _ ht => ht) h)
  | zeroiseRetry => exact powered_locked h he (ite_locked (resumeStartUp_locked (zeroiseWrite_locked h)) h)
  | tamperZeroise =>
    have htamper := assertTamper_locked h
    exact next_locked he (ite_locked (resumeStartUp_locked htamper) htamper)
  | receiveWireReturnsHigh => exact powered_locked h he h
  | clockSecond | tamperReleased => exact next_locked he h
  | _ => cases hi

/-- Settles O55: a command is a request or an event. -/
theorem lockedUntilPowerOn : Obligations.LockedUntilPowerOn := by
  intro c s t h hreset hloss he
  cases hi : c.request with
  | some x => exact exec_request_locked h hi he
  | none => exact exec_event_locked h hi hreset hloss he

end Sys2Proof.Machine.FaultsAndLock

/-! ## Characters and frames as the link receives them: O10 and O11 -/

namespace Sys2Proof.Machine.OfficeLink

open Sys2Proof Sys2Proof.Machine Sys2Proof.Machine.LanesAndArbiter

/-! ### The parity of a character (R165, R166) -/

theorem onesOf_eq_count (b : Byte) : onesOf b = ((List.range 8).map b.getLsbD).count true := by
  rw [onesOf, ← List.countP_eq_length_filter, List.count, List.countP_map]
  congr 1
  funext i
  simp

/-- The ones of a character with its parity bit. -/
theorem count_with_parity (b : Byte) (p : Bool) :
    ((List.range 8).map b.getLsbD ++ [p]).count true = onesOf b + if p then 1 else 0 := by
  rw [List.count_append, onesOf_eq_count]
  cases p <;> rfl

/-- A character is marked when its stop bit is low or its ones do not come out as the parity asks. -/
theorem charError_iff (l : LinkSettings) (c : LineChar) :
    charError l c = true ↔ c.stopBit = false ∨
      (l.parity = .even ∧ ((List.range 8).map c.data.getLsbD ++ [c.parityBit]).count true % 2 = 1 ∨
        l.parity = .odd ∧ ((List.range 8).map c.data.getLsbD ++ [c.parityBit]).count true % 2 = 0) := by
  rw [count_with_parity]
  cases hp : l.parity with
  | none => simp [charError, Parity.agrees, hp]
  | even => simp [charError, Parity.agrees, hp, or_comm]
  | odd => simp [charError, Parity.agrees, hp, or_comm]

/-! ### What the assembler makes of a byte (R167) -/

section TakeByte

variable {s : State} {b : Held}

theorem takeByte_hunt (h : s.olk.asm = .hunt) :
    takeByte b s = if b.data = 0xA5 ∧ b.error = false ∧ b.overrun = false then setAsm .length s else s := by
  simp [takeByte, h]

theorem takeByte_length (h : s.olk.asm = .length) :
    takeByte b s =
      setAsm
        (if 2 ≤ b.data.toNat ∧ b.data.toNat ≤ 126 ∧ (b.error || b.overrun) = false then .body b.data.toNat [] false else .hunt) s := by
  simp [takeByte, h, apply_ite (setAsm · s)]

theorem takeByte_inBody {n : Nat} {taken : List Byte} {bad : Bool} (h : s.olk.asm = .body n taken bad) :
    takeByte b s =
      setAsm
        (if taken.length + 1 < n then .body n (taken ++ [b.data]) (bad || (b.error || b.overrun))
        else .check (taken ++ [b.data]) none (bad || (b.error || b.overrun))) s := by
  by_cases hn : taken.length + 1 < n
  · simp [takeByte, h, hn, Nat.not_le.mpr hn]
  · simp [takeByte, h, hn, Nat.not_lt.mp hn]

theorem takeByte_crcHigh {taken : List Byte} {bad : Bool} (h : s.olk.asm = .check taken none bad) :
    takeByte b s = setAsm (.check taken (some b.data) (bad || (b.error || b.overrun))) s := by
  simp [takeByte, h]

theorem takeByte_crcLow {taken : List Byte} {high : Byte} {bad : Bool} (h : s.olk.asm = .check taken (some high) bad) :
    takeByte b s = frameComplete taken high b.data (bad || (b.error || b.overrun)) s := by
  simp [takeByte, h]

end TakeByte

/-! ### A character ends (R166) -/

/-- The part with its receive shift register empty, as a character that ends leaves it. -/
def emptied (s : State) : State := s.withOlk { s.olk with shift := none }

section Character

variable {s : State}

theorem exec_characterReceived (c : LineChar) (hr : s.receiving = true) : exec (.characterReceived c) s = .next (arriveChar s c) := by
  simp only [exec, execCharacterReceived, hr, if_true]

theorem arriveChar_overrun {h : Held} (c : LineChar) (hhold : s.olk.hold = some h) :
    arriveChar s c = (emptied s).withOlk { (emptied s).olk with hold := some { h with overrun := true } } := by
  simp only [arriveChar, hhold]
  rfl

theorem arriveChar_held (c : LineChar) (hhold : s.olk.hold = none) (hasm : s.olk.asm.isWaiting = true) :
    arriveChar s c = (emptied s).withOlk { (emptied s).olk with hold := some ⟨c.data, charError s.olk.rxSettings c, false⟩ } := by
  simp only [arriveChar, takeHolding, hhold, hasm, State.withOlk_olk, if_true]
  rfl

/-- An empty holding byte hands a character on to an assembler that does not wait. -/
theorem exec_characterReceived_taken (c : LineChar) (hr : s.receiving = true) (hhold : s.olk.hold = none)
    (hasm : s.olk.asm.isWaiting = false) :
    exec (.characterReceived c) s = .next (takeByte ⟨c.data, charError s.olk.rxSettings c, false⟩ (emptied s)) := by
  have hempty : ({ s.olk with shift := none, hold := none } : Olk) = { s.olk with shift := none } := by rw [← hhold]
  rw [exec_characterReceived c hr, arriveChar_taken c hhold hasm, hempty]
  rfl

end Character

/-- Settles O10: the holding byte full, the assembler waiting, or the assembler's table state by state. -/
theorem characterTaken : Obligations.CharacterTaken := by
  rintro c s _ _ hr rfl rfl
  refine ⟨fun h hhold => ?_, fun hhold => ⟨fun r hasm => ?_, fun hasm => ?_, fun hasm => ?_, fun n taken bad hasm => ?_,
    fun taken bad hasm => ?_⟩, ?_⟩
  · rw [exec_characterReceived c hr, arriveChar_overrun c hhold]
    rfl
  · rw [exec_characterReceived c hr, arriveChar_held c hhold (by rw [hasm]; rfl)]
    rfl
  · rw [exec_characterReceived_taken c hr hhold (by rw [hasm]; rfl), takeByte_hunt (s := emptied s) hasm]
    simp only [and_true]
    rfl
  · rw [exec_characterReceived_taken c hr hhold (by rw [hasm]; rfl), takeByte_length (s := emptied s) hasm]
    simp only [Bool.or_false]
    rfl
  · rw [exec_characterReceived_taken c hr hhold (by rw [hasm]; rfl), takeByte_inBody (s := emptied s) hasm]
    simp only [Bool.or_false]
    rfl
  · rw [exec_characterReceived_taken c hr hhold (by rw [hasm]; rfl), takeByte_crcHigh (s := emptied s) hasm]
    simp only [Bool.or_false]
    rfl
  · simp only [exists_eq_left']
    exact charError_iff _ c

/-! ### A frame judged (R168) -/

theorem wrongLength_iff {kind : Nat} {payload : List Byte} :
    wrongLength kind payload = true ↔ ∃ k, Kind.ofCode kind = some k ∧ payload.length ≠ k.payloadLength := by
  cases hk : Kind.ofCode kind <;> simp [wrongLength, hk]

section Judging

variable {first : Byte} {lane kind : Nat} {payload : List Byte} {damaged : Bool} {s : State} {st : Status}

theorem frameStatus_malformed (h : damaged = true ∨ wrongLength kind payload = true) :
    frameStatus lane kind payload damaged s = some .malformed := by
  obtain h | h := h <;> simp [frameStatus, h]

/-- A frame that is not malformed is judged by its lane's level and then by the room in its queue. -/
theorem frameStatus_wellFormed (h : ¬ (damaged = true ∨ wrongLength kind payload = true)) :
    frameStatus lane kind payload damaged s =
      if lane ≠ 0 ∧ s.levelAt lane = 0 then some .laneClosed else if 4 ≤ (s.queueAt lane).length then some .laneFull else none := by
  obtain ⟨hwhole, hlength⟩ := not_or.mp h
  rw [frameStatus, if_neg hwhole, if_neg hlength]
  rfl

theorem judge_discarded (hlane : 9 ≤ laneOf first) : judge first kind payload damaged s = setAsm .hunt s := if_pos hlane

theorem judge_answered (hlane : laneOf first ≤ 8) (h : frameStatus (laneOf first) kind payload damaged s = some st) :
    judge first kind payload damaged s = giveAnswer (linkReply (laneOf first) (tagOf first) kind st) s := by
  rw [judge, if_neg (by omega), h]

theorem judge_enters (hlane : laneOf first ≤ 8) (h : frameStatus (laneOf first) kind payload damaged s = none) :
    judge first kind payload damaged s =
      setQueue (laneOf first) (s.queueAt (laneOf first) ++ [⟨tagOf first, kind, payload⟩]) (setAsm .hunt s) := by
  rw [judge, if_neg (by omega), h]

end Judging

/-- A frame is damaged when a mark came before its last character, with it, or when its CRC does not agree. -/
def frameDamaged (c : LineChar) (s : State) (body : List Byte) (high : Byte) (bad : Bool) : Bool :=
  (bad || charError s.olk.rxSettings c) || decide (crc16 body ≠ high ++ c.data)

theorem malformed_iff {c : LineChar} {s : State} {body payload : List Byte} {kind : Nat} {high : Byte} {bad : Bool} :
    frameDamaged c s body high bad = true ∨ wrongLength kind payload = true ↔
      bad = true ∨ charError s.olk.rxSettings c = true ∨ crc16 body ≠ high ++ c.data ∨
        ∃ k, Kind.ofCode kind = some k ∧ payload.length ≠ k.payloadLength := by
  rw [wrongLength_iff]
  simp [frameDamaged, or_assoc]

/-- The last character of a frame brings it to its judging, the shift register empty. -/
theorem exec_lastCharacter (c : LineChar) {s : State} {first kind high : Byte} {payload : List Byte} {bad : Bool}
    (hr : s.receiving = true) (hhold : s.olk.hold = none) (hasm : s.olk.asm = .check (first :: kind :: payload) (some high) bad) :
    exec (.characterReceived c) s =
      .next (judge first kind.toNat payload (frameDamaged c s (first :: kind :: payload) high bad) (emptied s)) := by
  rw [exec_characterReceived_taken c hr hhold (by rw [hasm]; rfl), takeByte_crcLow (s := emptied s) hasm, Bool.or_false]
  rfl

/-- Settles O11: the lane first, then the checks in their order, and the request's queue when all are passed. -/
theorem frameJudged : Obligations.FrameJudged := by
  rintro c s _ first kind high payload bad hr hhold rfl hasm
  rw [exec_lastCharacter c hr hhold hasm]
  refine ⟨fun hlane => ?_, fun hlane => ⟨fun st hchecks => ?_, fun hbad hmark hcrc hlength hopen hroom => ?_⟩⟩
  · rw [judge_discarded hlane]
    rfl
  · have hstatus : frameStatus (laneOf first) kind.toNat payload (frameDamaged c s (first :: kind :: payload) high bad) (emptied s) =
        some st := by
      split at hchecks
      next hbad =>
        rw [hchecks]
        exact frameStatus_malformed (malformed_iff.mpr hbad)
      next hgood =>
        rw [frameStatus_wellFormed (mt malformed_iff.mp hgood)]
        split at hchecks
        next hclosed =>
          rw [hchecks]
          exact if_pos hclosed
        next hopen =>
          obtain ⟨rfl, hfull⟩ := hchecks
          exact (if_neg hopen).trans (if_pos hfull)
    rw [judge_answered hlane hstatus]
    rfl
  · have hgood : ¬ (bad = true ∨ charError s.olk.rxSettings c = true ∨ crc16 (first :: kind :: payload) ≠ high ++ c.data ∨
        ∃ k, Kind.ofCode kind.toNat = some k ∧ payload.length ≠ k.payloadLength) := by
      simpa [hbad, hmark, hcrc] using hlength
    have hnotClosed : ¬ (first.toNat / 16 ≠ 0 ∧ s.levelAt (first.toNat / 16) = 0) := fun h => hopen.elim h.1 fun hlevel => hlevel h.2
    have hstatus : frameStatus (laneOf first) kind.toNat payload (frameDamaged c s (first :: kind :: payload) high bad) (emptied s) =
        none := by
      rw [frameStatus_wellFormed (mt malformed_iff.mp hgood)]
      exact (if_neg hnotClosed).trans (if_neg (Nat.not_le.mpr hroom))
    rw [judge_enters hlane hstatus]
    rfl

end Sys2Proof.Machine.OfficeLink

/-! ## The link's timeout and its waiting answer: O12 -/

namespace Sys2Proof.Machine.OfficeLink

open Sys2Proof Sys2Proof.Machine

/-! ### The inter-byte timeout (R169) -/

section Timeout

variable {s : State}

theorem exec_interByteTimeout_hunt (hs : s.supply = true) (hasm : s.olk.asm = .hunt) : exec .interByteTimeout s = .next s := by
  simp only [exec, execInterByteTimeout, powered_on _ hs, hasm]

theorem exec_interByteTimeout_waiting {r : Reply} (hs : s.supply = true) (hasm : s.olk.asm = .waiting r) :
    exec .interByteTimeout s = .next s := by
  simp only [exec, execInterByteTimeout, powered_on _ hs, hasm]

theorem exec_interByteTimeout_length (hs : s.supply = true) (hasm : s.olk.asm = .length) :
    exec .interByteTimeout s = .next (abandon [] s) := by
  simp only [exec, execInterByteTimeout, powered_on _ hs, hasm]

theorem exec_interByteTimeout_body {n : Nat} {taken : List Byte} {bad : Bool} (hs : s.supply = true)
    (hasm : s.olk.asm = .body n taken bad) : exec .interByteTimeout s = .next (abandon taken s) := by
  simp only [exec, execInterByteTimeout, powered_on _ hs, hasm]

theorem exec_interByteTimeout_check {taken : List Byte} {high : Option Byte} {bad : Bool} (hs : s.supply = true)
    (hasm : s.olk.asm = .check taken high bad) : exec .interByteTimeout s = .next (abandon taken s) := by
  simp only [exec, execInterByteTimeout, powered_on _ hs, hasm]

theorem abandon_otherLane {first : Byte} (rest : List Byte) (h : 9 ≤ laneOf first) : abandon (first :: rest) s = setAsm .hunt s :=
  if_pos h

/-- On lanes 0 to 8 the answer's kind is the kind byte, if it has come. -/
theorem abandon_answered {first : Byte} {rest : List Byte} {echo : Nat} (h : laneOf first ≤ 8)
    (hecho : rest = [] ∧ echo = 0 ∨ ∃ k more, rest = k :: more ∧ echo = k.toNat) :
    abandon (first :: rest) s = giveAnswer (linkReply (laneOf first) (tagOf first) echo .malformed) s := by
  have hlane : ¬ 9 ≤ laneOf first := by omega
  obtain ⟨rfl, rfl⟩ | ⟨k, more, rfl, rfl⟩ := hecho
  · exact if_neg hlane
  · exact if_neg hlane

end Timeout

/-! ### An answer that waits (R170) -/

/-- What the assembler and the holding byte hold plays no part in the transmitter's filling. -/
theorem pushReply_receiver (r : Reply) (s : State) (a : Assembler) (h : Option Held) :
    pushReply r (s.withOlk { s.olk with hold := h, asm := a }) =
      (pushReply r s).withOlk { (pushReply r s).olk with hold := h, asm := a } := by
  unfold pushReply fillTx
  cases hreplies : s.olk.replies <;> simp [hreplies]

section Waiting

variable {s : State} {r : Reply}

theorem exec_linkAnswerPlaced_full (hs : s.supply = true) (hasm : s.olk.asm = .waiting r) (hfull : s.placeFree = false) :
    exec .linkAnswerPlaced s = .next s := by
  simp [exec, execLinkAnswerPlaced, powered_on _ hs, hasm, hfull]

theorem exec_linkAnswerPlaced_free (hs : s.supply = true) (hasm : s.olk.asm = .waiting r) (hfree : s.placeFree = true) :
    exec .linkAnswerPlaced s = .next (takeHolding (pushReply r (setAsm .hunt s))) := by
  simp [exec, execLinkAnswerPlaced, powered_on _ hs, hasm, hfree]

theorem takeHolding_empty (h : s.olk.hold = none) : takeHolding s = s := by
  simp only [takeHolding, h]

theorem takeHolding_hunting {h : Held} (hhold : s.olk.hold = some h) (hasm : s.olk.asm = .hunt) :
    takeHolding s = s.withOlk { s.olk with
      hold := none, asm := if h.data = 0xA5 ∧ h.error = false ∧ h.overrun = false then .length else .hunt } := by
  have htaken : takeHolding s = takeByte h (s.withOlk { s.olk with hold := none }) := by
    simp [takeHolding, hhold, hasm, Assembler.isWaiting]
  rw [htaken, takeByte_hunt (by exact hasm)]
  split
  · rfl
  · rw [← hasm]

end Waiting

/-- Settles O12: the timeout by what the assembler is at, and the waiting answer by the place and the byte held. -/
theorem linkAnswersOrWaits : Obligations.LinkAnswersOrWaits := by
  refine ⟨fun s hs => ⟨exec_interByteTimeout_hunt hs, fun r => exec_interByteTimeout_waiting hs, ?_, fun first rest hasm => ?_⟩,
    fun s r hs hasm => ⟨exec_linkAnswerPlaced_full hs hasm, fun hfree => ?_⟩⟩
  · rintro (hasm | ⟨n, bad, hasm⟩)
    · exact exec_interByteTimeout_length hs hasm
    · exact exec_interByteTimeout_body hs hasm
  · have habandons : exec .interByteTimeout s = .next (abandon (first :: rest) s) := by
      obtain ⟨n, bad, hasm⟩ | ⟨high, bad, hasm⟩ := hasm
      · exact exec_interByteTimeout_body hs hasm
      · exact exec_interByteTimeout_check hs hasm
    rw [habandons]
    refine ⟨fun hlane => ?_, fun hlane echo hecho => ?_⟩
    · rw [abandon_otherLane rest hlane]
      rfl
    · rw [abandon_answered hlane hecho]
      rfl
  · rw [exec_linkAnswerPlaced_free hs hasm hfree]
    have hhunting : (pushReply r (setAsm .hunt s)).olk.asm = .hunt := fillTx_asm _
    have hheld : (pushReply r (setAsm .hunt s)).olk.hold = s.olk.hold := fillTx_hold _
    refine ⟨fun hhold => ?_, fun h hhold => ?_⟩
    · rw [takeHolding_empty (hheld.trans hhold)]
      rfl
    · rw [takeHolding_hunting (hheld.trans hhold) hhunting, ← pushReply_receiver]
      rfl

end Sys2Proof.Machine.OfficeLink

/-! ## SET LINK and the settings its reply carries: O13 -/

namespace Sys2Proof.Machine.OfficeLink

open Sys2Proof Sys2Proof.Machine Sys2Proof.Machine.LanesAndArbiter

/-! ### SET LINK (R174) -/

theorem ofCode_code (p : Parity) : Parity.ofCode p.code = some p := by cases p <;> rfl

theorem ofCode_eq_none : ∀ {n : Nat}, 2 < n → Parity.ofCode n = none
  | _ + 3, _ => rfl

section SetLink

variable {divisor parity stopBits : Nat} {s : State}

theorem setLinkBody_accepts (p : Parity) (h : stopBits = 1 ∨ stopBits = 2) :
    setLinkBody divisor p.code stopBits s =
      answered ⟨.ok, fieldBytes [(1, divisor), (1, p.code), (1, stopBits)], some ⟨divisor, p, stopBits⟩⟩ s := by
  simp only [setLinkBody, ofCode_code, h, if_true]

theorem setLinkBody_outOfRange (h : 2 < parity ∨ stopBits ≠ 1 ∧ stopBits ≠ 2) :
    setLinkBody divisor parity stopBits s = refuse .outOfRange s := by
  cases hp : Parity.ofCode parity with
  | none => simp only [setLinkBody, hp]
  | some p =>
    have hstop : stopBits ≠ 1 ∧ stopBits ≠ 2 := h.resolve_left fun hparity => by simp [ofCode_eq_none hparity] at hp
    simp only [setLinkBody, hp]
    rw [if_neg (not_or.mpr hstop)]

end SetLink

theorem exec_setLink_answered {lane tag divisor parity stopBits : Nat} {s g t : State} {a : Answer}
    (h : taken (.setLink lane tag divisor parity stopBits) s = some g) (hb : setLinkBody divisor parity stopBits g = answered a t) :
    exec (.setLink lane tag divisor parity stopBits) s = .next (finish a t) :=
  serve_answered h hb

/-! ### The first reply sent (R173, R174) -/

/-- The transmitter as it starts the next reply, if there is one, at the settings in force. -/
def nextTx (l : LinkSettings) (rest : List Reply) : Tx :=
  match rest with
  | [] => ⟨none, none, 0⟩
  | n :: _ => ⟨n.frame[0]?.map l.char, n.frame[1]?, 2⟩

theorem fillTx_next (o : Olk) (rest : List Reply) :
    fillTx { o with replies := rest, tx := ⟨none, none, 0⟩ } = { o with replies := rest, tx := nextTx o.settings rest } := by
  cases rest with
  | nil => rfl
  | cons n more =>
    rw [fillTx_reply rfl]
    simp only [tx_begins]
    rfl

/-- A reply sent leaves the queue, and the next begins at the settings this one may have put into effect. -/
theorem replySent_eq {s : State} {r : Reply} {rest : List Reply} (hs : s.supply = true) (hreplies : s.olk.replies = r :: rest) :
    replySent s =
      (s.withEnv { s.env with starts := if r.settings.isSome then s.env.starts.tail else s.env.starts }).withOlk { s.olk with
        replies := rest
        tx := nextTx (r.settings.getD s.olk.settings) rest
        settings := r.settings.getD s.olk.settings
        shift := if r.settings.isSome = true ∧ s.env.starts.headD false = true ∧ s.olk.breakHeld = false then
            some (s.olk.shift.getD s.olk.settings)
          else s.olk.shift } := by
  simp only [replySent, hreplies]
  cases hset : r.settings with
  | none =>
    simp only [fillTx_next]
    rfl
  | some v =>
    simp only [fillTx_next]
    simp [applySettings, State.receiving, Olk.rxSettings, hs]

/-! ### A character sent (R165) -/

/-- The parity bit, where there is one, makes the count of ones as set. -/
theorem bitFor_count (b : Byte) :
    ((List.range 8).map b.getLsbD ++ (Parity.even.bitFor b).toList).count true % 2 = 0 ∧
      ((List.range 8).map b.getLsbD ++ (Parity.odd.bitFor b).toList).count true % 2 = 1 := by
  simp only [Parity.bitFor, Option.toList_some, count_with_parity, beq_iff_eq]
  constructor <;> split <;> omega

/-- Settles O13: SET LINK by its ranges, the reply sent by the settings it carries, and the sent character by the parity. -/
theorem linkSettingsFollowReply : Obligations.LinkSettingsFollowReply := by
  refine ⟨fun lane tag divisor parity stopBits s g ht => ⟨?_, fun hrange => ?_⟩, fun s r rest hs hreplies => ?_, fun l b => ?_⟩
  · rintro p rfl hstop
    exact exec_setLink_answered ht (setLinkBody_accepts p hstop)
  · exact exec_setLink_answered ht (setLinkBody_outOfRange hrange)
  · refine ⟨nextTx (r.settings.getD s.olk.settings) rest, ?_, ?_, ?_⟩
    · rw [← replySent_eq hs hreplies]
      exact powered_on replySent hs
    · rintro rfl
      rfl
    · rintro n more rfl
      rfl
  · refine ⟨(l.parity.bitFor b).toList, rfl, ?_, ?_, ?_⟩
    · intro hp
      rw [hp]
      rfl
    · intro hp
      rw [hp]
      exact ⟨rfl, (bitFor_count b).1⟩
    · intro hp
      rw [hp]
      exact ⟨rfl, (bitFor_count b).2⟩

end Sys2Proof.Machine.OfficeLink

/-! ## What a zeroise and a link break make of the quotes -/

namespace Sys2Proof.Machine.VoidedQuotes

open Sys2Proof Sys2Proof.Machine Sys2Proof.Machine.Quotes Sys2Proof.Machine.VendingFloat

/-! ### One lane's void (R76) -/

theorem noteAt_setNote_same {lane : Nat} (n : Note) (s : State) (h0 : lane ≠ 0) (h8 : lane ≤ 8) : (setNote lane n s).noteAt lane = n := by
  simp only [setNote, State.noteAt, if_neg h0, State.withLqa_lqa]
  exact pick_put_same _ _ (by omega)

theorem noteAt_setNote_other {lane k : Nat} (n : Note) (s : State) (hk : k ≠ lane) : (setNote lane n s).noteAt k = s.noteAt k := by
  unfold setNote State.noteAt
  split
  · rfl
  · split
    · rfl
    · exact pick_put_other _ _ (by omega)

/-- The quote of a lane that a zeroise's or a link break's void reaches, if it has one: OPEN or HELD (R86, R87). -/
def waitingAt (s : State) (lane : Nat) : Option Quote := (s.quoteAt lane).filter fun q => decide (q.state ≠ .issuing)

/-- The ISSUING quote of a lane, which such a void leaves. -/
def issuingAt (s : State) (lane : Nat) : Option Quote := (s.quoteAt lane).filter fun q => decide (q.state = .issuing)

theorem waitingAt_some {s : State} {lane : Nat} {q : Quote} :
    waitingAt s lane = some q ↔ s.quoteAt lane = some q ∧ q.state ≠ .issuing := by
  simp [waitingAt, Option.filter_eq_some_iff]

theorem waitingAt_isSome (s : State) (lane : Nat) :
    (waitingAt s lane).isSome = (s.quoteAt lane).any fun q => decide (q.state ≠ .issuing) := by
  unfold waitingAt
  cases s.quoteAt lane <;> simp [Option.filter, apply_ite]

/-- A lane without an OPEN or HELD quote holds an ISSUING one or none. -/
theorem quoteAt_of_notWaiting {s : State} {lane : Nat} (h : waitingAt s lane = none) : s.quoteAt lane = issuingAt s lane := by
  unfold waitingAt at h
  unfold issuingAt
  cases hq : s.quoteAt lane with
  | none => rfl
  | some q =>
    have hissuing : q.state = .issuing := by simpa [hq] using h
    rw [Option.filter, if_pos (decide_eq_true hissuing)]

theorem issuingAt_of_waiting {s : State} {lane : Nat} {q : Quote} (h : waitingAt s lane = some q) : issuingAt s lane = none := by
  obtain ⟨hq, hwaits⟩ := waitingAt_some.mp h
  simp [issuingAt, hq, hwaits]

theorem voidWaiting_notWaiting {note : Note} {s : State} {lane : Nat} (h : waitingAt s lane = none) : voidWaiting note lane s = s := by
  unfold voidWaiting
  split
  · rfl
  · rename_i q hq
    split
    · rfl
    · rename_i hwaits
      rw [waitingAt_some.mpr ⟨hq, hwaits⟩] at h
      cases h

/-- What a void leaves of the free pool and the review counter (R76, R94). -/
theorem voidQuote_ast {lane : Nat} {s : State} {q : Quote} (hq : s.quoteAt lane = some q) :
    (voidQuote lane s).ast = { s.ast with free := q.shadow :: s.ast.free } := by
  simp only [voidQuote, hq]
  rw [releaseReview_eq, setQuote_eq]
  rfl

theorem voidQuote_review {lane : Nat} {s : State} {q : Quote} (hq : s.quoteAt lane = some q) :
    (q.review = false → (voidQuote lane s).qtb.review = s.qtb.review) ∧
      (q.review = true → ∃ v, v ≤ 7 ∧ (voidQuote lane s).qtb.review = .counting v) := by
  simp only [voidQuote, hq]
  refine ⟨fun hno => ?_, fun htag => releaseReview_tagged _ htag⟩
  rw [releaseReview_untagged _ hno, State.withFlt_qtb, freeSlot, State.withAst_qtb, setQuote_qtb]

/-! ### The voids of several lanes -/

/-- `t` has the OPEN and HELD quotes that `s` holds on the lanes `ks` voided with a note. -/
structure VoidedOn (ks : List Nat) (note : Note) (s t : State) : Prop where
  quotes : ∀ k, t.quoteAt k = if k ∈ ks then issuingAt s k else s.quoteAt k
  notes : ∀ k, t.noteAt k = if k ∈ ks ∧ (waitingAt s k).isSome then note else s.noteAt k
  free : t.ast.free.Perm (s.ast.free ++ (ks.filterMap (waitingAt s)).map (·.shadow))
  slots : t.ast.slots = s.ast.slots
  restarts : (∃ q ∈ ks.filterMap (waitingAt s), q.review = true) → ∃ v, v ≤ 7 ∧ t.qtb.review = .counting v
  counts : (∀ q ∈ ks.filterMap (waitingAt s), q.review = false) → t.qtb.review = s.qtb.review

theorem VoidedOn.none (note : Note) (s : State) : VoidedOn [] note s s := by
  constructor <;> simp

/-- One lane's OPEN or HELD quote, if it has one, voided. -/
theorem voidWaiting_voidedOn (note : Note) (lane : Nat) (s : State) : VoidedOn [lane] note s (voidWaiting note lane s) := by
  cases hw : waitingAt s lane with
  | none =>
    have hq := quoteAt_of_notWaiting hw
    rw [voidWaiting_notWaiting hw]
    refine ⟨fun k => ?_, fun k => ?_, ?_, rfl, ?_, fun _ => rfl⟩
    · by_cases hk : k = lane
      · subst hk
        simpa using hq
      · simp [hk]
    · by_cases hk : k = lane
      · subst hk
        simp [hw]
      · simp [hk]
    · simp [hw]
    · simp [hw]
  | some q =>
    obtain ⟨hq, hwaits⟩ := waitingAt_some.mp hw
    obtain ⟨h0, h8⟩ := quoteAt_some_lane hq
    obtain ⟨huntagged, htagged⟩ := voidQuote_review hq
    rw [voidWaiting_waiting hq hwaits]
    have hentry (k : Nat) : (setNote lane note (voidQuote lane s)).quoteAt k = (voidQuote lane s).quoteAt k := by
      rw [setNote_eq]
      rfl
    have hqtb : (setNote lane note (voidQuote lane s)).qtb = (voidQuote lane s).qtb := by
      rw [setNote_eq]
      rfl
    have hast : (setNote lane note (voidQuote lane s)).ast = { s.ast with free := q.shadow :: s.ast.free } := by
      rw [setNote_eq]
      exact voidQuote_ast hq
    refine ⟨fun k => ?_, fun k => ?_, ?_, by rw [hast], ?_, ?_⟩
    · rw [hentry, voidQuote_quoteAt hq]
      by_cases hk : k = lane
      · subst hk
        simp [issuingAt_of_waiting hw]
      · simp [hk]
    · by_cases hk : k = lane
      · subst hk
        simp [hw, noteAt_setNote_same _ _ h0 h8]
      · rw [noteAt_setNote_other _ _ hk, voidQuote_eq]
        simp [hk, State.noteAt]
    · rw [hast]
      simpa [hw] using (List.perm_append_singleton _ _).symm
    · rintro ⟨p, hp, htag⟩
      obtain rfl : p = q := by simpa [hw] using hp
      rw [hqtb]
      exact htagged htag
    · intro hno
      rw [hqtb]
      exact huntagged (hno q (by simp [hw]))

/-- Voids on further lanes. -/
theorem VoidedOn.cons {lane : Nat} {ks : List Nat} {note : Note} {s t u : State} (hfresh : lane ∉ ks) (h : VoidedOn [lane] note s t)
    (k : VoidedOn ks note t u) : VoidedOn (lane :: ks) note s u := by
  have hthere (j : Nat) (hj : j ∈ ks) : t.quoteAt j = s.quoteAt j := by
    rw [h.quotes, if_neg]
    rintro hin
    exact hfresh (List.mem_singleton.mp hin ▸ hj)
  have hwaiting (j : Nat) (hj : j ∈ ks) : waitingAt t j = waitingAt s j := by rw [waitingAt, hthere j hj, waitingAt]
  have hmap (u : State) : ks.filterMap (waitingAt u) = (ks.map (waitingAt u)).filterMap id := by
    rw [List.filterMap_map]
    rfl
  have hrest : ks.filterMap (waitingAt t) = ks.filterMap (waitingAt s) := by
    rw [hmap t, hmap s, List.map_congr_left hwaiting]
  have hsplit : (lane :: ks).filterMap (waitingAt s) = [lane].filterMap (waitingAt s) ++ ks.filterMap (waitingAt s) := by
    rw [← List.filterMap_append, List.singleton_append]
  refine ⟨fun j => ?_, fun j => ?_, ?_, k.slots.trans h.slots, ?_, ?_⟩
  · rw [k.quotes]
    by_cases hj : j ∈ ks
    · simp [hj, issuingAt, hthere j hj]
    · simp [hj, h.quotes j]
  · rw [k.notes]
    by_cases hj : j ∈ ks
    · have hne : j ≠ lane := fun he => hfresh (he ▸ hj)
      simp [hj, hwaiting j hj, h.notes j, hne]
    · simp [hj, h.notes j]
  · rw [hsplit, List.map_append, ← List.append_assoc, ← hrest]
    exact k.free.trans (h.free.append_right _)
  · rw [hsplit]
    rintro ⟨q, hq, htag⟩
    rw [List.mem_append] at hq
    by_cases hlater : ∃ q ∈ ks.filterMap (waitingAt t), q.review = true
    · exact k.restarts hlater
    · rw [k.counts fun p hp => Bool.eq_false_iff.mpr fun hp' => hlater ⟨p, hp, hp'⟩]
      refine h.restarts ⟨q, hq.resolve_right fun hin => hlater ⟨q, hrest ▸ hin, htag⟩, htag⟩
  · rw [hsplit]
    intro hno
    rw [k.counts fun q hq => hno q (List.mem_append_right _ (hrest ▸ hq)), h.counts fun q hq => hno q (List.mem_append_left _ hq)]

theorem foldl_voidWaiting_voidedOn (note : Note) (ks : List Nat) (hnodup : ks.Nodup) (s : State) :
    VoidedOn ks note s (ks.foldl (fun t k => voidWaiting note k t) s) := by
  induction ks generalizing s with
  | nil => exact .none note s
  | cons lane ks ih =>
    obtain ⟨hfresh, hrest⟩ := List.nodup_cons.mp hnodup
    exact (voidWaiting_voidedOn note lane s).cons hfresh (ih hrest _)

/-- Every OPEN and HELD quote voided (R86, R87): what `voided` says of it. -/
theorem voidAll_voided (note : Note) (s : State) : voided note s (voidAll note s) := by
  have h : VoidedOn counterLanes note s (voidAll note s) := by
    unfold voidAll
    exact foldl_voidWaiting_voidedOn note counterLanes (by decide) s
  have hkeeps := voidAll_keeps note s
  have hlawful := (voidAll_voidsAtMost note s).law
  have hquotes (k : Nat) : issuingAt s k = (s.quoteAt k).filter fun q => decide (q.state = .issuing) := rfl
  have hwaiting : counterLanes.filterMap (waitingAt s) = s.waitingQuotes := rfl
  have hfree := hwaiting ▸ h.free
  have hrestarts := hwaiting ▸ h.restarts
  have hcounts := hwaiting ▸ h.counts
  generalize voidAll note s = t at *
  refine ⟨fun k hk => ⟨?_, ?_⟩, hfree, h.slots, hrestarts, hcounts, hkeeps.period, hkeeps.threshold, hkeeps.flt, fun hlaw =>
    (hlawful hlaw).1⟩
  · rw [h.quotes, if_pos hk, hquotes]
  · rw [h.notes, waitingAt_isSome]
    simp only [hk, true_and]

/-- The voids of a zeroise or a link break, which the request being served remembers (R76). -/
theorem strike_voided (note : Note) (s : State) : voided note s (strike note s) := by
  have h := voidAll_voided note s
  unfold strike
  generalize voidAll note s = t at *
  exact h

end Sys2Proof.Machine.VoidedQuotes

/-! ## The directory's steps: O22 -/

namespace Sys2Proof.Machine.Directory

open Sys2Proof Sys2Proof.Machine Sys2Proof.Machine.KeysAndLock

/-! ### One cell written and the gap that follows it (R11 to R13) -/

/-- An entry moved up out of the cell below the gap: the gap is one lower, the list without it as it was. -/
theorem eraseIdx_setCell_below (es : List Entry) {c : Nat} (h0 : 0 < c) (hc : c ≤ es.length) :
    (setCell es c (es[c - 1]?.getD default)).eraseIdx (c - 1) = es.eraseIdx c := by
  have hbelow : es[c - 1]? = some es[c - 1] := List.getElem?_eq_getElem (by omega)
  rw [hbelow, Option.getD_some]
  refine List.ext_getElem? fun i => ?_
  unfold setCell
  split
  · simp only [List.getElem?_eraseIdx, List.getElem?_set]
    grind
  · simp only [List.getElem?_eraseIdx, List.getElem?_append]
    grind

/-- An entry moved down out of the cell above the gap: the gap is one higher, the list without it as it was. -/
theorem eraseIdx_set_above (es : List Entry) {c : Nat} (hc : c + 1 < es.length) :
    (es.set c (es[c + 1]?.getD default)).eraseIdx (c + 1) = es.eraseIdx c := by
  have habove : es[c + 1]? = some es[c + 1] := List.getElem?_eq_getElem hc
  rw [habove, Option.getD_some]
  refine List.ext_getElem? fun i => ?_
  simp only [List.getElem?_eraseIdx, List.getElem?_set]
  grind

/-- An entry placed in the gap joins the list without the gap there. -/
theorem setCell_eq_insert (es : List Entry) (e : Entry) {c : Nat} (hc : c ≤ es.length) :
    setCell es c e = (es.eraseIdx c).take c ++ e :: (es.eraseIdx c).drop c := by
  refine List.ext_getElem? fun i => ?_
  unfold setCell
  split
  · simp only [List.getElem?_append, List.getElem?_cons, List.getElem?_take, List.getElem?_drop, List.getElem?_eraseIdx, List.getElem?_set,
      List.length_take, List.length_eraseIdx]
    grind
  · rw [List.eraseIdx_of_length_le (by omega), List.take_of_length_le (by omega), List.drop_of_length_le (by omega)]

/-- The last cell cut off, when the gap stands there. -/
theorem take_eq_eraseIdx_last (es : List Entry) {c : Nat} (hc : c + 1 = es.length) : es.take c = es.eraseIdx c := by
  rw [List.eraseIdx_eq_take_drop_succ, hc, List.drop_length, List.append_nil]

/-! ### What the next step comes to (R11, R12) -/

/-- All that a step of a fitting change comes to: the gap moves and the list without it stays, or the change completes and the list is what
LIST walked. -/
theorem stepped_cases {d : Dir} {ch : Change} (hch : d.change = some ch) (hfits : d.fits ch = true) :
    (∃ m slot q p c, ch = .enrolling m slot q p c ∧ p < c ∧ d.stepped.change = some (.enrolling m slot q p (c - 1)) ∧
        c ≤ d.entries.length ∧ d.entries.length ≤ d.stepped.entries.length ∧ d.stepped.view = d.view) ∨
      (∃ m slot c, ch = .retiring m slot c ∧ d.stepped.change = some (.retiring m slot (c + 1)) ∧ c + 1 < d.entries.length ∧
        d.stepped.entries.length = d.entries.length ∧ d.stepped.view = d.view) ∨
      d.stepped = ⟨d.listing, none⟩ := by
  cases ch with
  | enrolling m slot q p c =>
    simp only [Dir.fits, Bool.and_eq_true, decide_eq_true_eq] at hfits
    obtain ⟨⟨⟨hpc, hc⟩, -⟩, -⟩ := hfits
    by_cases hlt : p < c
    · left
      refine ⟨m, slot, q, p, c, rfl, hlt, by simp [Dir.stepped, hch, hlt], hc, ?_, ?_⟩
      · simp only [Dir.stepped, hch, if_pos hlt, setCell]
        split <;> simp
      · simp only [Dir.stepped, hch, if_pos hlt, Dir.view, Change.cursor]
        exact eraseIdx_setCell_below d.entries (by omega) hc
    · right; right
      obtain rfl : p = c := by omega
      simp only [Dir.stepped, hch, if_neg hlt, Dir.listing, Dir.view, Change.cursor, setCell_eq_insert d.entries _ hc]
  | retiring m slot c =>
    simp only [Dir.fits, decide_eq_true_eq] at hfits
    by_cases hlt : c + 1 < d.entries.length
    · right; left
      refine ⟨m, slot, c, rfl, by simp [Dir.stepped, hch, hlt], hlt, by simp [Dir.stepped, hch, hlt], ?_⟩
      simp only [Dir.stepped, hch, if_pos hlt, Dir.view, Change.cursor]
      exact eraseIdx_set_above d.entries hlt
    · right; right
      have hlast : c + 1 = d.entries.length := by omega
      have hcut : d.entries.length - 1 = c := by omega
      simp only [Dir.stepped, hch, if_neg hlt, Dir.listing, Dir.view, Change.cursor, hcut, take_eq_eraseIdx_last d.entries hlast]

/-- The list LIST walks stays through a step (R25). -/
theorem stepped_listing {d : Dir} {ch : Change} (hch : d.change = some ch) (hfits : d.fits ch = true) :
    d.stepped.listing = d.listing := by
  obtain ⟨m, slot, q, p, c, rfl, -, hnext, -, -, hview⟩ | ⟨m, slot, c, rfl, hnext, -, -, hview⟩ | hdone := stepped_cases hch hfits
  · simp only [Dir.listing, hnext, hch, hview]
  · simp only [Dir.listing, hnext, hch, hview]
  · rw [hdone]
    rfl

/-- The change a step leaves fits. -/
theorem stepped_fits {d : Dir} {ch : Change} (hch : d.change = some ch) (hfits : d.fits ch = true) :
    d.stepped.change.all d.stepped.fits = true := by
  obtain ⟨m, slot, q, p, c, rfl, hlt, hnext, hc, hlength, hview⟩ | ⟨m, slot, c, rfl, hnext, hlt, hlength, hview⟩ | hdone :=
    stepped_cases hch hfits
  · simp only [hnext, Option.all_some, Dir.fits, Bool.and_eq_true, decide_eq_true_eq, hview] at hfits ⊢
    obtain ⟨⟨-, hbelow⟩, habove⟩ := hfits
    exact ⟨⟨⟨by omega, by omega⟩, hbelow⟩, habove⟩
  · simp only [hnext, Option.all_some, Dir.fits, decide_eq_true_eq]
    omega
  · rw [hdone]
    rfl

/-! ### Lookups walk the list of LIST (R13) -/

theorem find?_meter_eq_none {es : List Entry} {meter : Nat} (h : ∀ x ∈ meters es, x ≠ meter) :
    (es.find? fun e => e.meter == meter) = none := by
  rw [List.find?_eq_none]
  intro e he
  simpa using h e.meter (List.mem_map_of_mem he)

/-- A lookup through a pending change finds what stands in the list that the change will leave (R13). -/
theorem lookup_eq_find_listing {d : Dir} (hfits : d.change.all d.fits = true) (meter : Nat) :
    d.lookup meter = if meter = 0 ∨ Config.maxMeter < meter then none else d.listing.find? fun e => e.meter == meter := by
  unfold Dir.lookup
  split
  · rfl
  · split
    · rename_i m slot q p c hch
      simp only [hch, Option.all_some, Dir.fits, Bool.and_eq_true, List.all_eq_true, decide_eq_true_eq] at hfits
      obtain ⟨⟨-, hbelow⟩, habove⟩ := hfits
      have hlisting : d.listing = d.view.take p ++ ⟨m, slot, q⟩ :: d.view.drop p := by simp only [Dir.listing, hch]
      have hsplit : d.view.find? (fun e => e.meter == meter) =
          (d.view.take p ++ d.view.drop p).find? fun e => e.meter == meter := by rw [List.take_append_drop]
      rw [hlisting, List.find?_append]
      split
      · rename_i hm
        rw [find?_meter_eq_none fun x hx => hm ▸ Nat.ne_of_lt (hbelow x hx)]
        simp [hm]
      · rename_i hm
        rw [hsplit, List.find?_append]
        simp [hm]
    · rename_i hch
      have hlisting : d.listing = d.view := by
        unfold Dir.listing
        split
        · rename_i m slot q p c hch'
          exact absurd hch' (hch m slot q p c)
        · rfl
      rw [hlisting]

theorem stepped_lookup {d : Dir} {ch : Change} (hch : d.change = some ch) (hfits : d.fits ch = true) (meter : Nat) :
    d.stepped.lookup meter = d.lookup meter := by
  have hall : d.change.all d.fits = true := by rw [hch]; exact hfits
  rw [lookup_eq_find_listing (stepped_fits hch hfits), lookup_eq_find_listing hall, stepped_listing hch hfits]

/-! ### The step commands (R11, R12) -/

section Steps

variable {s u : State} {k : DirStep}

theorem drawWrite_dir {b : Bool} (h : drawWrite s = (b, u)) : u.dir = s.dir := by
  rw [drawWrite_frame h]
  rfl

/-- The next step of a part that is started up, its write made. -/
theorem takeStep_made (hup : s.startUp = .done) (hnext : s.dir.nextStep = some k) (hw : drawWrite s = (false, u)) :
    takeStep k s = stepMade u := by
  simp [takeStep, State.stepDue, hnext, hup, tryStep, retained_made _ _ hw]

/-- The next step of a part that is started up, its write failed. -/
theorem takeStep_failed (hup : s.startUp = .done) (hnext : s.dir.nextStep = some k) (hw : drawWrite s = (true, u)) :
    takeStep k s = raise .storeWrite u := by
  simp [takeStep, State.stepDue, hnext, hup, tryStep, retained_failed _ _ hw]

/-- A step that frees no slot writes the directory alone. -/
theorem stepMade_kept (h : s.dir.released = none) : stepMade s = s.withDir s.dir.stepped := by
  simp only [stepMade, h]

/-- The closing step frees the retired slot beside it (R12). -/
theorem stepMade_released {slot : Nat} (h : s.dir.released = some slot) : stepMade s = freeSlot slot (s.withDir s.dir.stepped) := by
  simp only [stepMade, h]

end Steps

/-- Settles O22: each step by the directory it finds, its write made or failed; lookups and LIST by the list both walk. -/
theorem directorySteps : Obligations.DirectorySteps := by
  refine ⟨fun s u hsupply hup => ⟨fun hw => ⟨?_, ?_, ?_, ?_⟩, fun hw => ?_⟩, fun d hordered hsome => ?_⟩
  · intro m slot q p c e hch hlt hc he
    have hnext : s.dir.nextStep = some .enrolMove := by simp [Dir.nextStep, hch, hlt]
    refine (powered_on _ hsupply).trans (congrArg _ ?_)
    rw [takeStep_made hup hnext hw, stepMade_kept] <;> rw [drawWrite_dir hw]
    · simp only [Dir.stepped, hch, if_pos hlt, he, Option.getD_some, setCell]
    · simp [Dir.released, hch]
  · intro m slot q c hch hc
    have hnext : s.dir.nextStep = some .placing := by simp [Dir.nextStep, hch]
    refine (powered_on _ hsupply).trans (congrArg _ ?_)
    rw [takeStep_made hup hnext hw, stepMade_kept] <;> rw [drawWrite_dir hw]
    · simp only [Dir.stepped, hch, if_neg (Nat.lt_irrefl c), setCell]
    · simp [Dir.released, hch]
  · intro m slot c e hch he
    have hlt : c + 1 < s.dir.entries.length := (List.getElem?_eq_some_iff.mp he).1
    have hnext : s.dir.nextStep = some .retireMove := by simp [Dir.nextStep, hch, hlt]
    refine (powered_on _ hsupply).trans (congrArg _ ?_)
    rw [takeStep_made hup hnext hw, stepMade_kept] <;> rw [drawWrite_dir hw]
    · simp only [Dir.stepped, hch, if_pos hlt, he, Option.getD_some]
    · simp [Dir.released, hch, hlt]
  · intro m slot c hch hlast
    have hnot : ¬ c + 1 < s.dir.entries.length := by omega
    have hcut : s.dir.entries.length - 1 = c := by omega
    have hnext : s.dir.nextStep = some .closing := by simp [Dir.nextStep, hch, hnot]
    refine (powered_on _ hsupply).trans (congrArg _ ?_)
    rw [takeStep_made hup hnext hw, stepMade_released (slot := slot)] <;> rw [drawWrite_dir hw]
    · simp only [Dir.stepped, hch, if_neg hnot, hcut]
    · simp [Dir.released, hch, hnot]
  · have hfailed (k : DirStep) (hnext : s.dir.nextStep = some k) : powered s (takeStep k) = .next (raise .storeWrite u) :=
      (powered_on _ hsupply).trans (congrArg _ (takeStep_failed hup hnext hw))
    exact ⟨hfailed _, hfailed _, hfailed _, hfailed _⟩
  · obtain ⟨-, hfits, -⟩ := hordered
    obtain ⟨ch, hch⟩ := Option.isSome_iff_exists.mp hsome
    rw [hch, Option.all_some] at hfits
    exact ⟨stepped_lookup hch hfits, stepped_listing hch hfits⟩

end Sys2Proof.Machine.Directory

/-! ## What keeps the directory in order -/

namespace Sys2Proof.Machine.Directory

open Sys2Proof Sys2Proof.Machine

/-! ### Steps (R11, R12) -/

theorem meters_take (es : List Entry) (n : Nat) : meters (es.take n) = (meters es).take n := List.map_take

theorem meters_drop (es : List Entry) (n : Nat) : meters (es.drop n) = (meters es).drop n := List.map_drop

theorem count_none {d : Dir} (h : d.change = none) : d.count = d.entries.length := by simp [Dir.count, Dir.view, h]

theorem count_some {d : Dir} {ch : Change} (h : d.change = some ch) : d.count = d.view.length + 1 := by simp [Dir.count, h]

/-- The list LIST walks ascends too, with the meter being enrolled in its place, and is no longer than the count (R10, R25). -/
theorem listing_ordered {d : Dir} (h : d.ordered) : (meters d.listing).Pairwise (· < ·) ∧ d.listing.length ≤ d.count := by
  obtain ⟨hascends, hfits, -⟩ := h
  unfold Dir.listing
  split
  · rename_i m slot q p c hch
    simp only [hch, Option.all_some, Dir.fits, Bool.and_eq_true, List.all_eq_true, decide_eq_true_eq] at hfits
    obtain ⟨⟨-, hbelow⟩, habove⟩ := hfits
    rw [← List.take_append_drop p d.view, meters, List.map_append] at hascends
    obtain ⟨hlow, hhigh, hacross⟩ := List.pairwise_append.mp hascends
    refine ⟨?_, ?_⟩
    · rw [meters, List.map_append, List.map_cons]
      refine List.pairwise_append.mpr ⟨hlow, List.pairwise_cons.mpr ⟨habove, hhigh⟩, fun x hx y hy => ?_⟩
      obtain rfl | hy := List.mem_cons.mp hy
      · exact hbelow x hx
      · exact hacross x hx y hy
    · rw [count_some hch, List.length_append, List.length_cons, List.length_take, List.length_drop]
      omega
  · exact ⟨hascends, Nat.le_add_right _ _⟩

/-- A step keeps the directory in order. -/
theorem stepped_ordered {d : Dir} (h : d.ordered) : d.stepped.ordered := by
  cases hch : d.change with
  | none =>
    have hsame : d.stepped = d := by simp [Dir.stepped, hch]
    rwa [hsame]
  | some ch =>
    have ⟨hascends, hfits, hcount⟩ := h
    rw [hch, Option.all_some] at hfits
    refine ⟨?_, stepped_fits hch hfits, ?_⟩ <;>
      obtain ⟨m, slot, q, p, c, rfl, -, hnext, -, -, hview⟩ | ⟨m, slot, c, rfl, hnext, -, -, hview⟩ | hdone := stepped_cases hch hfits
    · rwa [hview]
    · rwa [hview]
    · rw [hdone]
      exact (listing_ordered h).1
    · rwa [count_some hnext, hview, ← count_some hch]
    · rwa [count_some hnext, hview, ← count_some hch]
    · rw [hdone, count_none rfl]
      exact Nat.le_trans (listing_ordered h).2 hcount

/-! ### Slot swaps and quarantined flags (R6, R14, R20) -/

theorem eraseIdx_map_entries (f : Entry → Entry) (es : List Entry) (c : Nat) : (es.map f).eraseIdx c = (es.eraseIdx c).map f := by
  refine List.ext_getElem? fun i => ?_
  simp only [List.getElem?_eraseIdx, List.getElem?_map]
  split <;> rfl

/-- An update of a meter's entry that leaves its meter. -/
theorem update_meters {d : Dir} (meter : Nat) {f : Entry → Entry} (hf : ∀ e, (f e).meter = e.meter) :
    meters (d.update meter f).view = meters d.view := by
  have hcell : ((·.meter) ∘ fun e : Entry => if e.meter = meter then f e else e) = (·.meter) := by
    funext e
    simp only [Function.comp_apply]
    split
    · exact hf e
    · rfl
  have hmap (es : List Entry) : meters (es.map fun e => if e.meter = meter then f e else e) = meters es := by
    rw [meters, List.map_map, hcell, meters]
  unfold Dir.view
  cases hch : d.change with
  | none =>
    simp only [Dir.update, hch]
    exact hmap _
  | some ch =>
    cases ch with
    | enrolling m slot q p c =>
      by_cases hm : m = meter
      all_goals
        simp only [Dir.update, hch, hm, if_true, if_false, Change.cursor, eraseIdx_map_entries]
        exact hmap _
    | retiring m slot c =>
      simp only [Dir.update, hch, Change.cursor, eraseIdx_map_entries]
      exact hmap _

theorem update_ordered {d : Dir} (meter : Nat) {f : Entry → Entry} (hf : ∀ e, (f e).meter = e.meter) (h : d.ordered) :
    (d.update meter f).ordered := by
  obtain ⟨hascends, hfits, hcount⟩ := h
  have hmeters := update_meters (d := d) meter hf
  have hlength : (d.update meter f).view.length = d.view.length := by simpa [meters] using congrArg List.length hmeters
  have hentries : (d.update meter f).entries.length = d.entries.length := by simp [Dir.update]
  refine ⟨by rwa [hmeters], ?_, ?_⟩
  · cases hch : d.change with
    | none => simp [Dir.update, hch]
    | some ch =>
      rw [hch, Option.all_some] at hfits
      cases ch with
      | enrolling m slot q p c =>
        have hnext : ∃ slot' q', (d.update meter f).change = some (.enrolling m slot' q' p c) := by
          simp only [Dir.update, hch]
          split
          · exact ⟨_, _, rfl⟩
          · exact ⟨_, _, rfl⟩
        obtain ⟨slot', q', hnext⟩ := hnext
        rw [hnext, Option.all_some]
        simpa only [Dir.fits, meters_take, meters_drop, hmeters, hentries] using hfits
      | retiring m slot c =>
        have hnext : (d.update meter f).change = some (.retiring m slot c) := by simp only [Dir.update, hch]
        rw [hnext, Option.all_some]
        simpa only [Dir.fits, hentries] using hfits
  · have hsome : (d.update meter f).change.isSome = d.change.isSome := by
      simp only [Dir.update]
      split
      · rename_i hch
        split <;> simp [hch]
      · rfl
    rwa [Dir.count, hsome, hlength]

theorem swap_ordered {d : Dir} (meter slot : Nat) (h : d.ordered) : (d.swap meter slot).ordered :=
  update_ordered meter (fun _ => rfl) h

theorem mark_ordered {d : Dir} (meter : Nat) (q : Bool) (h : d.ordered) : (d.mark meter q).ordered :=
  update_ordered meter (fun _ => rfl) h

/-! ### A change begun (R11, R12, R16 to R18) -/

/-- In an ascending list that lacks a meter, the smaller meters are those before its insertion position, the larger those after (R11). -/
theorem insertion_position {es : List Entry} {m : Nat} (hascends : (meters es).Pairwise (· < ·)) (habsent : m ∉ meters es) :
    (∀ x ∈ meters (es.take (es.filter fun e => decide (e.meter < m)).length), x < m) ∧
      ∀ x ∈ meters (es.drop (es.filter fun e => decide (e.meter < m)).length), m < x := by
  induction es with
  | nil => simp [meters]
  | cons e es ih =>
    obtain ⟨hfirst, hrest⟩ := List.pairwise_cons.mp hascends
    obtain ⟨hne, habsent⟩ : m ≠ e.meter ∧ m ∉ meters es := not_or.mp fun hin => habsent (List.mem_cons.mpr hin)
    by_cases hlt : e.meter < m
    · obtain ⟨hbelow, habove⟩ := ih hrest habsent
      have hkept : ((e :: es).filter fun e => decide (e.meter < m)).length = (es.filter fun e => decide (e.meter < m)).length + 1 := by
        simp [hlt]
      rw [hkept, List.take_succ_cons, List.drop_succ_cons]
      refine ⟨fun x hx => ?_, habove⟩
      obtain rfl | hx := List.mem_cons.mp hx
      · exact hlt
      · exact hbelow x hx
    · have hlater (x : Entry) (hx : x ∈ e :: es) : m < x.meter := by
        obtain rfl | hx := List.mem_cons.mp hx
        · omega
        · have hafter : e.meter < x.meter := hfirst x.meter (List.mem_map_of_mem hx)
          omega
      have hnone : (e :: es).filter (fun e => decide (e.meter < m)) = [] := by
        rw [List.filter_eq_nil_iff]
        intro x hx
        have := hlater x hx
        simp only [decide_eq_true_eq]
        omega
      rw [hnone]
      refine ⟨by simp [meters], fun x hx => ?_⟩
      obtain ⟨y, hy, rfl⟩ := List.mem_map.mp hx
      exact hlater y hy

/-- An enrolment begun for a meter that no entry has, with room in the list (R11, R16). -/
theorem enrolling_ordered {d : Dir} {meter slot : Nat} {q : Bool} (h : d.ordered) (hidle : d.change = none)
    (hrange : ¬ (meter = 0 ∨ Config.maxMeter < meter)) (habsent : d.lookup meter = none) (hroom : d.count < Config.maxEntries) :
    Dir.ordered { d with change := some (.enrolling meter slot q (d.position meter) d.entries.length) } := by
  obtain ⟨hascends, -, -⟩ := h
  have hentries : d.view = d.entries := by simp only [Dir.view, hidle]
  have hview : Dir.view { d with change := some (.enrolling meter slot q (d.position meter) d.entries.length) } = d.entries :=
    List.eraseIdx_of_length_le (Nat.le_refl _)
  have hmissing : meter ∉ meters d.entries := by
    rw [Dir.lookup, if_neg hrange, hidle] at habsent
    simp only [hentries, List.find?_eq_none, beq_iff_eq] at habsent
    intro hin
    obtain ⟨e, he, hm⟩ := List.mem_map.mp hin
    exact habsent e he hm
  rw [hentries] at hascends
  obtain ⟨hbelow, habove⟩ := insertion_position hascends hmissing
  refine ⟨by rwa [hview], ?_, ?_⟩
  · rw [Option.all_some, Dir.fits, hview]
    simp only [Bool.and_eq_true, List.all_eq_true, decide_eq_true_eq, Dir.position, hentries]
    exact ⟨⟨⟨List.length_filter_le _ _, Nat.le_refl _⟩, hbelow⟩, habove⟩
  · rw [count_some rfl, hview, ← count_none hidle]
    exact hroom

/-- A retirement begun of a meter that has an entry (R12, R18). -/
theorem retiring_ordered {d : Dir} {meter slot : Nat} (h : d.ordered) (hidle : d.change = none) (hpresent : meter ∈ meters d.entries) :
    Dir.ordered { d with change := some (.retiring meter slot (d.index meter)) } := by
  obtain ⟨hascends, -, hcount⟩ := h
  have hentries : d.view = d.entries := by simp only [Dir.view, hidle]
  have hindex : d.index meter < d.entries.length := by
    obtain ⟨e, he, hm⟩ := List.mem_map.mp hpresent
    exact List.findIdx_lt_length_of_exists ⟨e, he, by simpa using hm⟩
  have hview : Dir.view { d with change := some (.retiring meter slot (d.index meter)) } = d.entries.eraseIdx (d.index meter) := rfl
  rw [hentries] at hascends
  refine ⟨?_, by simpa [Dir.fits] using hindex, ?_⟩
  · rw [hview]
    exact hascends.sublist ((List.eraseIdx_sublist _ _).map _)
  · rw [count_some rfl, hview, List.length_eraseIdx_of_lt hindex]
    rw [count_none hidle] at hcount
    omega

/-- A meter found has an entry, when no change is pending. -/
theorem mem_meters_of_lookup {d : Dir} {meter : Nat} {e : Entry} (hidle : d.change = none) (h : d.lookup meter = some e) :
    e.meter = meter ∧ meter ∈ meters d.entries := by
  unfold Dir.lookup at h
  split at h
  · cases h
  · simp only [hidle, Dir.view] at h
    have hmeter : e.meter = meter := by simpa using List.find?_some h
    exact ⟨hmeter, hmeter ▸ List.mem_map_of_mem (List.mem_of_find?_eq_some h)⟩

end Sys2Proof.Machine.Directory

/-! ## What every step keeps: the relation, and the operations commands share -/

namespace Sys2Proof.Machine.EveryStep

open Sys2Proof Sys2Proof.Machine Sys2Proof.Machine.Quotes Sys2Proof.Machine.VendingFloat Sys2Proof.Machine.Directory

/-! ### Work that keeps what every step keeps -/

/-- Work from `s` to `t` leaves the waiting commands, brings no quote into ISSUING, and keeps every bound of the part and the directory's
order, each by itself: what O3, O58 and O60 say of a command, composed from what it does. -/
structure Orderly (s t : State) : Prop where
  pending : t.pending = s.pending
  serving : s.serving = none → t.serving = none
  issuing : ∀ k q, t.quoteAt k = some q → q.state = .issuing → s.quoteAt k = some q
  fmn : s.fmn.bounded → t.fmn.bounded
  queues : s.queuesBounded → t.queuesBounded
  lqa : s.lqa.bounded → t.lqa.bounded
  uses : s.tcu.uses ≤ Config.usesPerTest → t.tcu.uses ≤ Config.usesPerTest
  slots : s.ast.slots.wf = true → t.ast.slots.wf = true
  dir : s.dir.ordered → t.dir.ordered

theorem Orderly.refl (s : State) : Orderly s s := ⟨rfl, id, fun _ _ h _ => h, id, id, id, id, id, id⟩

theorem Orderly.trans {s t u : State} (h : Orderly s t) (k : Orderly t u) : Orderly s u where
  pending := k.pending.trans h.pending
  serving := k.serving ∘ h.serving
  issuing n q hq hi := h.issuing n q (k.issuing n q hq hi) hi
  fmn := k.fmn ∘ h.fmn
  queues := k.queues ∘ h.queues
  lqa := k.lqa ∘ h.lqa
  uses := k.uses ∘ h.uses
  slots := k.slots ∘ h.slots
  dir := k.dir ∘ h.dir

theorem Orderly.ite {s x y : State} {p : Prop} [Decidable p] (hx : Orderly s x) (hy : Orderly s y) : Orderly s (if p then x else y) := by
  split
  · exact hx
  · exact hy

/-! Updates of one block. -/

theorem Orderly.withEnv (s : State) (v : Env) : Orderly s (s.withEnv v) := ⟨rfl, id, fun _ _ h _ => h, id, id, id, id, id, id⟩
theorem Orderly.withFreeReads (s : State) (v : Nat) : Orderly s (s.withFreeReads v) := ⟨rfl, id, fun _ _ h _ => h, id, id, id, id, id, id⟩
theorem Orderly.withStartUp (s : State) (v : StartUp) : Orderly s (s.withStartUp v) := ⟨rfl, id, fun _ _ h _ => h, id, id, id, id, id, id⟩
theorem Orderly.withTamper (s : State) (v : Bool) : Orderly s (s.withTamper v) := ⟨rfl, id, fun _ _ h _ => h, id, id, id, id, id, id⟩
theorem Orderly.withSupply (s : State) (v : Bool) : Orderly s (s.withSupply v) := ⟨rfl, id, fun _ _ h _ => h, id, id, id, id, id, id⟩
theorem Orderly.withZks (s : State) (v : Zks) : Orderly s (s.withZks v) := ⟨rfl, id, fun _ _ h _ => h, id, id, id, id, id, id⟩
theorem Orderly.withTtb (s : State) (v : Ttb) : Orderly s (s.withTtb v) := ⟨rfl, id, fun _ _ h _ => h, id, id, id, id, id, id⟩
theorem Orderly.withFlt (s : State) (v : Flt) : Orderly s (s.withFlt v) := ⟨rfl, id, fun _ _ h _ => h, id, id, id, id, id, id⟩
theorem Orderly.withClk (s : State) (v : Clk) : Orderly s (s.withClk v) := ⟨rfl, id, fun _ _ h _ => h, id, id, id, id, id, id⟩

theorem Orderly.withFmn {s : State} {v : Fmn} (h : s.fmn.bounded → v.bounded) : Orderly s (s.withFmn v) :=
  ⟨rfl, id, fun _ _ h _ => h, h, id, id, id, id, id⟩

theorem Orderly.withTcu {s : State} {v : Tcu} (h : s.tcu.uses ≤ Config.usesPerTest → v.uses ≤ Config.usesPerTest) :
    Orderly s (s.withTcu v) :=
  ⟨rfl, id, fun _ _ h _ => h, id, id, id, h, id, id⟩

theorem Orderly.withAst {s : State} {v : Ast} (h : s.ast.slots.wf = true → v.slots.wf = true) : Orderly s (s.withAst v) :=
  ⟨rfl, id, fun _ _ h _ => h, id, id, id, id, h, id⟩

theorem Orderly.withDir {s : State} {v : Dir} (h : s.dir.ordered → v.ordered) : Orderly s (s.withDir v) :=
  ⟨rfl, id, fun _ _ h _ => h, id, id, id, id, id, h⟩

/-- The link with no more replies than before. -/
theorem Orderly.withOlk {s : State} {v : Olk} (h : v.replies.length ≤ s.olk.replies.length) : Orderly s (s.withOlk v) where
  pending := rfl
  serving := id
  issuing _ _ h _ := h
  fmn := id
  queues := fun ⟨hlanes, hreplies⟩ => ⟨hlanes, Nat.le_trans (Nat.add_le_add_right h _) hreplies⟩
  lqa := id
  uses := id
  slots := id
  dir := id

/-- The request being served with its place in the reply queue or without it, but with none that it had not. -/
theorem Orderly.withServing (s : State) {f : Serving → Serving} (h : ∀ v, (f v).placeHeld = true → v.placeHeld = true) :
    Orderly s (s.withServing (s.serving.map f)) where
  pending := rfl
  serving hnone := by simp [hnone]
  issuing _ _ h _ := h
  fmn := id
  queues := by
    rintro ⟨hlanes, hreplies⟩
    refine ⟨hlanes, Nat.le_trans (Nat.add_le_add_left ?_ _) hreplies⟩
    rw [State.withServing_serving]
    cases s.serving with
    | none => exact Nat.le_refl _
    | some v =>
      have hv := h v
      cases hheld : (f v).placeHeld <;> simp_all
  lqa := id
  uses := id
  slots := id
  dir := id

/-- Lane queues each as they were or short enough, and levels and pointers in range. -/
theorem Orderly.withLqa {s : State} {v : Lqa} (hbounded : s.lqa.bounded → v.bounded)
    (hqueues : ∀ k, pick v.queues k = s.queueAt k ∨ (pick v.queues k).length ≤ Config.queuePlaces) : Orderly s (s.withLqa v) where
  pending := rfl
  serving := id
  issuing _ _ h _ := h
  fmn := id
  queues := by
    rintro ⟨hlanes, hreplies⟩
    refine ⟨fun k hk => ?_, hreplies⟩
    obtain hsame | hshort := hqueues k
    · exact Nat.le_trans (Nat.le_of_eq (congrArg List.length hsame)) (hlanes k hk)
    · exact hshort
  lqa := hbounded
  uses := id
  slots := id
  dir := id

theorem Orderly.withNotes (s : State) (n : Vector Note 8) : Orderly s (s.withLqa { s.lqa with notes := n }) :=
  .withLqa id fun _ => .inl rfl

/-- An entry emptied, or filled with a quote that is not ISSUING (R70). -/
theorem setQuote_orderly (lane : Nat) (q : Option Quote) (s : State) (h : ∀ p, q = some p → p.state ≠ .issuing) :
    Orderly s (setQuote lane q s) := by
  have hentry : ∀ k p, (setQuote lane q s).quoteAt k = some p → p.state = .issuing → s.quoteAt k = some p := by
    intro k p hp hissuing
    by_cases h0 : lane = 0
    · rwa [setQuote, if_pos h0] at hp
    · by_cases hk : k = lane
      · subst hk
        obtain ⟨-, h8⟩ := quoteAt_some_lane hp
        rw [quoteAt_setQuote_same _ _ h0 h8] at hp
        exact absurd hissuing (h p hp)
      · rwa [quoteAt_setQuote_other _ _ h0 hk] at hp
  rw [setQuote_eq] at hentry ⊢
  exact ⟨rfl, id, hentry, id, id, id, id, id, id⟩

theorem setNote_orderly (lane : Nat) (n : Note) (s : State) : Orderly s (setNote lane n s) := by
  unfold setNote
  exact .ite (.refl s) (.withNotes s _)

/-- The table's review counter and settings are no part of it. -/
theorem Orderly.withReview {s : State} {v : Qtb} (h : v.quotes = s.qtb.quotes) : Orderly s (s.withQtb v) := by
  refine ⟨rfl, id, fun k q hq _ => ?_, id, id, id, id, id, id⟩
  simpa only [State.quoteAt, State.withQtb_qtb, h] using hq

theorem pick_put (α : Type) [Inhabited α] {n : Nat} (v : Vector α n) (i j : Nat) (x : α) :
    pick (put v i x) j = x ∨ pick (put v i x) j = pick v j := by
  by_cases hj : j = i
  · subst hj
    by_cases hn : j < n
    · exact .inl (pick_put_same v x hn)
    · refine .inr ?_
      simp only [pick, put]
      rw [Vector.getElem?_eq_none (by omega), Vector.getElem?_eq_none (by omega)]
  · exact .inr (pick_put_other v x hj)

theorem mem_put {n : Nat} {v : Vector Nat n} {i x y : Nat} (h : y ∈ (put v i x).toList) : y ∈ v.toList ∨ y = x := by
  rw [put, Vector.toList_setIfInBounds] at h
  exact List.mem_or_eq_of_mem_set h

theorem setQueue_orderly (lane : Nat) {q : List Request} (s : State) (h : q.length ≤ Config.queuePlaces) :
    Orderly s (setQueue lane q s) := by
  refine .withLqa id fun k => ?_
  obtain hput | hput := pick_put _ s.lqa.queues lane k q
  · exact .inr (Nat.le_trans (Nat.le_of_eq (congrArg List.length hput)) h)
  · exact .inl hput

/-! ### Faults and retained writes (R153 to R155) -/

/-- A fault pushes at most a second entry, and the levels stay within 0 to 6. -/
theorem arrive_bounded {m : Fmn} (k : FaultKind) (minute : Nat) (h : m.bounded) : (m.arrive k minute).bounded := by
  obtain ⟨hdepth, hhold, hentries⟩ := h
  have hlevel : k.level ≤ 6 := by cases k <;> decide
  have hcase : faultCase k m = .pushed → ¬ 2 ≤ m.stack.length := by
    intro hc
    unfold faultCase at hc
    split at hc
    · cases hc
    · split at hc
      · cases hc
      · split at hc
        · split at hc
          · cases hc
          · assumption
        · cases hc
  unfold Fmn.arrive
  cases hc : faultCase k m with
  | reportedOnly => exact ⟨hdepth, hhold, hentries⟩
  | lockedPart => exact ⟨hdepth, hhold, hentries⟩
  | pushed =>
    have hroom := hcase hc
    refine ⟨by simp only [List.length_cons]; omega, hlevel, fun e he => ?_⟩
    obtain rfl | he := List.mem_cons.mp he
    · exact ⟨hhold, rfl⟩
    · exact hentries e he

theorem raise_orderly (k : FaultKind) (s : State) : Orderly s (raise k s) := .withFmn (arrive_bounded k _)

theorem raiseBeside_orderly (k : FaultKind) (s : State) : Orderly s (raiseBeside k s) := by
  unfold raiseBeside
  have hreads := Orderly.withFreeReads s (s.freeReads + 1)
  exact .ite ((hreads.trans (raise_orderly _ _)).trans (raise_orderly _ _)) ((hreads.trans (raise_orderly _ _)).trans (raise_orderly _ _))

theorem drawWrite_orderly (s : State) : Orderly s (drawWrite s).2 := by
  rw [drawWrite_eq]
  exact .withEnv s _

/-- A retained write, read by the state it leaves. -/
theorem retained_orderly {α : Type} {left : α → State} {s : State} {made failed : State → α} (hmade : ∀ t, Orderly t (left (made t)))
    (hfailed : ∀ t, Orderly t (left (failed t))) : Orderly s (left (retained s made failed)) := by
  obtain ⟨v, h | h⟩ := retained_cases s made failed
  · rw [h]
    exact (Orderly.withEnv s v).trans (hmade _)
  · rw [h]
    exact ((Orderly.withEnv s v).trans (raise_orderly .storeWrite _)).trans (hfailed _)

/-! ### Voids and the events inside a request (R76, R161, R172) -/

theorem freeSlot_orderly (slot : Nat) (s : State) : Orderly s (freeSlot slot s) := .withAst id

theorem writeSlot_orderly (slot : Nat) (r : Record) (s : State) : Orderly s (writeSlot slot r s) := .withAst (Store.wf_write slot r)

theorem releaseReview_orderly (q : Quote) (s : State) : Orderly s (releaseReview q s) := by
  unfold releaseReview
  refine .ite ?_ (.refl s)
  have hcounter : Orderly s (s.withQtb { s.qtb with review := .counting ((Config.lfsr s.freeReads).toNat % 8) }) := .withReview rfl
  exact hcounter.trans (.withFreeReads _ _)

theorem voidQuote_orderly (lane : Nat) (s : State) : Orderly s (voidQuote lane s) := by
  unfold voidQuote
  split
  · exact .refl s
  · have hempty : Orderly s (setQuote lane none s) := setQuote_orderly lane none s (fun _ h => by cases h)
    exact ((hempty.trans (freeSlot_orderly _ _)).trans (.withFlt _ _)).trans (releaseReview_orderly _ _)

theorem voidWaiting_orderly (n : Note) (lane : Nat) (s : State) : Orderly s (voidWaiting n lane s) := by
  unfold voidWaiting
  split
  · exact .refl s
  · exact .ite (.refl s) ((voidQuote_orderly lane s).trans (setNote_orderly lane n _))

theorem foldl_orderly {α : Type} {f : State → α → State} (hf : ∀ s a, Orderly s (f s a)) (as : List α) (s : State) :
    Orderly s (as.foldl f s) := by
  induction as generalizing s with
  | nil => exact .refl s
  | cons a as ih => exact (hf s a).trans (ih _)

theorem strike_orderly (n : Note) (s : State) : Orderly s (strike n s) := by
  have hvoids : Orderly s (voidAll n s) := by
    unfold voidAll
    exact foldl_orderly (fun t k => voidWaiting_orderly n k t) counterLanes s
  have hserving : s.serving = (voidAll n s).serving := by
    rw [voidAll_eq]
    simp only [State.withFreeReads_serving, State.withFlt_serving, State.withAst_serving, State.withQtb_serving, State.withLqa_serving]
  unfold strike
  rw [hserving]
  generalize voidAll n s = t at *
  exact hvoids.trans (.withServing t fun _ h => h)

theorem zeroiseWrite_orderly (s : State) : Orderly s (zeroiseWrite s).2 :=
  retained_orderly (fun t => (Orderly.withZks t _).trans (.withFmn id)) .refl

theorem zeroise_orderly (s : State) : Orderly s (zeroise s).2 := by
  have hpending : Orderly s (s.withFmn { s.fmn with zeroisePending := true }) := .withFmn id
  exact (hpending.trans (strike_orderly .voided _)).trans (zeroiseWrite_orderly _)

theorem assertTamper_orderly (s : State) : Orderly s (assertTamper s) :=
  .ite (.refl s) (.ite ((Orderly.withTamper s true).trans (zeroise_orderly _)) (.withTamper s true))

theorem linkBreakReset_orderly (s : State) : Orderly s (linkBreakReset s) := by
  have hlink : Orderly s (s.withOlk { s.olk with
      shift := none, hold := none, asm := .hunt, replies := [], tx := ⟨s.olk.tx.shift, none, 0⟩, breakHeld := true }) :=
    .withOlk (Nat.zero_le _)
  have hqueues (t : State) : Orderly t (t.withLqa { t.lqa with queues := Vector.replicate 9 [] }) := by
    refine .withLqa id fun k => .inr ?_
    simp only [pick, Vector.getElem?_replicate]
    split <;> exact Nat.zero_le _
  unfold linkBreakReset
  refine .trans (.trans ?_ (strike_orderly .none _)) (.withNotes _ _)
  exact (hlink.trans (.withServing _ fun _ h => by cases h)).trans (hqueues _)

theorem takeBreak_orderly (s : State) : Orderly s (takeBreak s) := .ite (.refl s) (linkBreakReset_orderly s)

theorem takeEvents_orderly : ∀ (events : List (Nat × MidEvent)) (s : State), Orderly s (takeEvents events s)
  | [], _ => .withEnv _ _
  | (0, .tamper) :: rest, s => (assertTamper_orderly s).trans (takeEvents_orderly rest _)
  | (0, .linkBreak) :: rest, s => (takeBreak_orderly s).trans (takeEvents_orderly rest _)
  | (0, .fault k) :: rest, s => (raise_orderly k s).trans (takeEvents_orderly rest _)
  | (_ + 1, _) :: _, _ => .withEnv _ _

theorem midEvent_orderly (s : State) : Orderly s (midEvent s) := takeEvents_orderly _ s

/-! ### Cipher uses (R43 to R45) -/

theorem selfTest_orderly (s : State) : Orderly s (selfTest s).2 := by
  have hdraw : Orderly s (drawTest s).2 := by
    unfold drawTest
    split
    · exact .refl s
    · exact .withEnv s _
  unfold selfTest
  split <;> rename_i t ht <;> rw [ht] at hdraw
  · exact hdraw.trans (.withTcu fun _ => Nat.zero_le _)
  · exact (hdraw.trans (.withTcu fun _ => Nat.zero_le _)).trans (raise_orderly _ _)

theorem andThen_orderly {α β : Type} {s : State} {r : Res α} {f : α → State → Res β} (hr : Orderly s (resState r))
    (hf : ∀ a t, Orderly t (resState (f a t))) : Orderly s (resState (r.andThen f)) := by
  cases r with
  | ok a t => exact hr.trans (hf a t)
  | no e t => exact hr

/-- The use counter goes to 256 and no further: the use after that begins with a self-test (R43). -/
theorem countUse_orderly (s : State) : Orderly s (resState (countUse s)) := by
  unfold countUse
  split
  · exact .refl s
  · split
    · rename_i hroom
      exact .withTcu fun _ => hroom
    · have htest := selfTest_orderly s
      split <;> rename_i t ht <;> rw [ht] at htest
      · exact htest.trans (.withTcu fun _ => Nat.le_of_ble_eq_true rfl)
      · exact htest

theorem plainUse_orderly (s : State) : Orderly s (resState (plainUse s)) := (midEvent_orderly s).trans (countUse_orderly _)

theorem slotUse_orderly (slot : Nat) (s : State) : Orderly s (resState (slotUse slot s)) := by
  refine (midEvent_orderly s).trans ?_
  unfold slotUse
  dsimp only
  split
  · exact andThen_orderly (countUse_orderly _) fun _ t => .refl t
  · exact .refl _

theorem eraseSlot_orderly (slot : Nat) (s : State) : Orderly s (eraseSlot slot s) := by
  have hdraw := drawWrite_orderly s
  unfold eraseSlot
  split <;> rename_i t ht <;> rw [ht] at hdraw
  · exact (hdraw.trans (.withZks t _)).trans (raise_orderly _ _)
  · exact (hdraw.trans (.withZks t _)).trans (raiseBeside_orderly _ _)

theorem checkSlot_orderly (slot : Nat) (s : State) : Orderly s (resState (checkSlot slot s)) := by
  refine andThen_orderly (slotUse_orderly slot s) fun kc t => ?_
  split
  · exact .refl t
  · exact eraseSlot_orderly slot t

theorem checkedKey_orderly (slot : Nat) (s : State) : Orderly s (resState (checkedKey slot s)) :=
  andThen_orderly (checkSlot_orderly slot s) fun _ t => andThen_orderly (slotUse_orderly slot t) fun _ u => .refl u

theorem deriveKey_orderly (zone meter : Nat) (k : KeyRef) (s : State) : Orderly s (resState (deriveKey zone meter k s)) :=
  andThen_orderly (checkedKey_orderly k.slot s) fun _ t => .refl t

theorem authenticator_orderly (bs : List Block) (s : State) : Orderly s (resState (authenticator bs s)) := by
  have hchain (a : Block) (t : State) : Orderly t (resState (chain a bs t)) := by
    induction bs generalizing a t with
    | nil => exact .refl t
    | cons b bs ih => exact andThen_orderly (slotUse_orderly 1 t) fun _ u => ih _ u
  exact andThen_orderly (checkSlot_orderly 1 s) fun _ t => hchain 0 t

theorem encipherParts_orderly (ps : List (Block × TokenClass × Nat)) (tid : Nat) (s : State) :
    Orderly s (resState (encipherParts tid ps s)) := by
  induction ps generalizing tid s with
  | nil => exact .refl s
  | cons p ps ih => exact andThen_orderly (plainUse_orderly s) fun _ t => andThen_orderly (ih _ t) fun _ u => .refl u

theorem formSet_orderly (zone meter : Nat) (key : KeyRef) (change : Option KeyRef) (tid : Nat) (set : TokenSet) (s : State) :
    Orderly s (resState (formSet zone meter key change tid set s)) := by
  refine andThen_orderly (deriveKey_orderly zone meter key s) fun toKey t => ?_
  cases change with
  | none => exact encipherParts_orderly _ _ t
  | some k => exact andThen_orderly (deriveKey_orderly zone meter k t) fun _ u => encipherParts_orderly _ _ u

theorem attempt_orderly (zone meter : Nat) (k : KeyRef) (token : Block) (s : State) :
    Orderly s (resState (attempt zone meter k token s)) :=
  andThen_orderly (deriveKey_orderly zone meter k s) fun _ t => andThen_orderly (plainUse_orderly t) fun _ u => .refl u

theorem loadedKey_orderly (slot : Nat) (field : Block) (s : State) : Orderly s (resState (loadedKey slot field s)) := by
  unfold loadedKey
  split
  · exact .refl s
  · exact andThen_orderly (checkedKey_orderly 0 s) fun _ t => .refl t

theorem retest_orderly (s : State) : Orderly s (retest s).2 := by
  unfold retest
  split
  · exact .refl s
  · have htest := (midEvent_orderly s).trans (selfTest_orderly _)
    split <;> rename_i t ht <;> rw [ht] at htest <;> exact htest

/-! ### The month roll, the directory's steps and start-up (R11, R12, R138, R164) -/

theorem rollMonth_orderly (s : State) : Orderly s (rollMonth s).2 :=
  retained_orderly (fun t => .ite ((Orderly.withClk t _).trans (.withTtb _ _)) (.withClk t _)) fun t => .withClk t _

theorem jumpClock_orderly (minute : Nat) (s : State) : Orderly s (jumpClock minute s).2 := by
  unfold jumpClock
  dsimp only
  split
  · exact (Orderly.withClk s _).trans (rollMonth_orderly _)
  · exact .withClk s _

theorem startRoll_orderly (s : State) : Orderly s (startRoll s) := by
  refine .ite (.withStartUp s _) (.ite ?_ (.withStartUp s _))
  have hroll := rollMonth_orderly s
  split <;> rename_i t ht <;> rw [ht] at hroll <;> exact hroll.trans (.withStartUp t _)

theorem retryStartRoll_orderly (s : State) : Orderly s (retryStartRoll s) := by
  have hroll := rollMonth_orderly s
  unfold retryStartRoll
  split <;> rename_i t ht <;> rw [ht] at hroll
  · exact hroll.trans (startRoll_orderly t)
  · exact hroll

theorem tryStep_orderly (s : State) : Orderly s (tryStep s).2 := by
  refine retained_orderly (fun t => ?_) .refl
  have hdir : Orderly t (t.withDir t.dir.stepped) := .withDir stepped_ordered
  unfold stepMade
  dsimp only
  split
  · exact hdir.trans (freeSlot_orderly _ _)
  · exact hdir

theorem completeChange_orderly (fuel : Nat) (s : State) : Orderly s (completeChange fuel s).2 := by
  induction fuel generalizing s with
  | zero => exact .refl s
  | succ fuel ih =>
    unfold completeChange
    split
    · exact .refl s
    · have hstep := tryStep_orderly s
      split <;> rename_i t ht <;> rw [ht] at hstep
      · exact hstep.trans (ih t)
      · exact hstep

theorem startDirectory_orderly (s : State) : Orderly s (startDirectory s) := by
  have hchange := completeChange_orderly (s.dir.entries.length + 1) s
  unfold startDirectory
  split <;> rename_i t ht <;> rw [ht] at hchange
  · have hpool : Orderly t (rebuildFree t) := .withAst id
    exact ((hchange.trans hpool).trans (selfTest_orderly _)).trans (startRoll_orderly _)
  · exact hchange.trans (.withStartUp t _)

theorem takeStep_orderly (k : DirStep) (s : State) : Orderly s (takeStep k s) := by
  refine .ite ?_ (.refl s)
  have hstep := tryStep_orderly s
  split <;> rename_i t ht <;> rw [ht] at hstep
  · exact .ite (hstep.trans (startDirectory_orderly t)) hstep
  · exact hstep

theorem resumeStartUp_orderly (s : State) : Orderly s (resumeStartUp s) := by
  refine .ite (.refl s) ?_
  split
  · exact startDirectory_orderly s
  · exact startRoll_orderly s
  · exact .refl s

theorem startZeroise_orderly (s : State) : Orderly s (startZeroise s) := by
  refine .ite ?_ (startDirectory_orderly s)
  have hzeroise := zeroise_orderly s
  split <;> rename_i t ht <;> rw [ht] at hzeroise
  · exact hzeroise.trans (startDirectory_orderly t)
  · exact hzeroise.trans (.withStartUp t _)

/-- Power-on empties what is not retained (R88, R142 to R153, R164). -/
theorem powerOnValues_orderly (s : State) : Orderly s (powerOnValues s) where
  pending := rfl
  serving _ := rfl
  issuing k q hq _ := by
    have hnone : (powerOnValues s).quoteAt k = none := by
      simp only [State.quoteAt, powerOnValues, pick, Vector.getElem?_replicate]
      split
      · rfl
      · split <;> rfl
    rw [hnone] at hq
    cases hq
  fmn _ := ⟨Nat.zero_le _, Nat.zero_le _, fun _ he => by cases he⟩
  queues _ := by
    refine ⟨fun k _ => ?_, Nat.zero_le _⟩
    simp only [State.queueAt, powerOnValues, pick, Vector.getElem?_replicate]
    split <;> exact Nat.zero_le _
  lqa := by
    rintro ⟨hlevels, -⟩
    refine ⟨hlevels, fun p hp => ?_⟩
    have hp8 : p = 8 := List.eq_of_mem_replicate (by simpa only [powerOnValues, Vector.toList_replicate] using hp)
    omega
  uses _ := Nat.zero_le _
  slots := id
  dir := id

/-! ### The office link (chapter 10) -/

theorem setAsm_orderly (a : Assembler) (s : State) : Orderly s (setAsm a s) := .withOlk (Nat.le_refl _)

/-- A reply placed where a place is free (R149, R173). -/
theorem pushReply_orderly (r : Reply) {s : State} (h : s.placeFree = true) : Orderly s (pushReply r s) where
  pending := rfl
  serving := id
  issuing _ _ h _ := h
  fmn := id
  queues := by
    rintro ⟨hlanes, -⟩
    refine ⟨hlanes, ?_⟩
    have hroom := of_decide_eq_true h
    have hserving : (pushReply r s).serving = s.serving := rfl
    rw [(pushReply_frame r s).2, List.length_append, List.length_singleton, hserving]
    omega
  lqa := id
  uses := id
  slots := id
  dir := id

theorem giveAnswer_orderly (r : Reply) (s : State) : Orderly s (giveAnswer r s) := by
  unfold giveAnswer
  split
  · rename_i hfree
    exact (setAsm_orderly .hunt s).trans (pushReply_orderly r hfree)
  · exact setAsm_orderly _ s

/-- A frame that is not answered finds a free place in its lane's queue (R142, R168). -/
theorem frameStatus_none_room {lane kind : Nat} {payload : List Byte} {damaged : Bool} {s : State}
    (h : frameStatus lane kind payload damaged s = none) : (s.queueAt lane).length < Config.queuePlaces := by
  unfold frameStatus at h
  split at h
  · cases h
  · split at h
    · cases h
    · split at h
      · cases h
      · split at h
        · cases h
        · omega

theorem judge_orderly (first : Byte) (kind : Nat) (payload : List Byte) (damaged : Bool) (s : State) :
    Orderly s (judge first kind payload damaged s) := by
  refine .ite (setAsm_orderly _ s) ?_
  split
  · exact giveAnswer_orderly _ s
  · rename_i hnone
    have hroom := frameStatus_none_room hnone
    refine (setAsm_orderly .hunt s).trans (setQueue_orderly _ _ ?_)
    rw [List.length_append, List.length_singleton]
    exact hroom

theorem takeByte_orderly (h : Held) (s : State) : Orderly s (takeByte h s) := by
  unfold takeByte
  dsimp only
  split
  · exact .ite (setAsm_orderly _ s) (.refl s)
  · exact .ite (setAsm_orderly _ s) (setAsm_orderly _ s)
  · exact .ite (setAsm_orderly _ s) (setAsm_orderly _ s)
  · exact setAsm_orderly _ s
  · unfold frameComplete
    split
    · exact judge_orderly ..
    · exact setAsm_orderly _ s
  · exact .refl s

theorem takeHolding_orderly (s : State) : Orderly s (takeHolding s) := by
  unfold takeHolding
  split
  · exact .refl s
  · have hempty : Orderly s (s.withOlk { s.olk with hold := none }) := .withOlk (Nat.le_refl _)
    exact .ite (.refl s) (hempty.trans (takeByte_orderly _ _))

theorem arriveChar_orderly (s : State) (c : LineChar) : Orderly s (arriveChar s c) := by
  unfold arriveChar
  split
  · exact .withOlk (Nat.le_refl _)
  · have hheld : Orderly s (s.withOlk { s.olk with shift := none, hold := some ⟨c.data, charError s.olk.rxSettings c, false⟩ }) :=
      .withOlk (Nat.le_refl _)
    exact hheld.trans (takeHolding_orderly _)

theorem abandon_orderly (taken : List Byte) (s : State) : Orderly s (abandon taken s) := by
  unfold abandon
  split
  · exact setAsm_orderly _ s
  · exact .ite (setAsm_orderly _ s) (giveAnswer_orderly _ s)

theorem replySent_orderly (s : State) : Orderly s (replySent s) := by
  unfold replySent
  split
  · exact .refl s
  · rename_i r rest hreplies
    dsimp only
    split
    · rename_i v _
      have hsettings : Orderly s (applySettings v s) := by
        unfold applySettings
        exact (Orderly.withEnv s _).trans (.withOlk (Nat.le_refl _))
      refine hsettings.trans (.withOlk ?_)
      rw [fillTx_replies]
      simp [applySettings, hreplies]
    · refine .withOlk ?_
      rw [fillTx_replies]
      simp [hreplies]

theorem txAdvance_orderly (s : State) : Orderly s (txAdvance s) := by
  refine .ite (.ite (replySent_orderly s) (.withOlk ?_)) (.refl s)
  exact Nat.le_of_eq (congrArg List.length (fillTx_replies _))

end Sys2Proof.Machine.EveryStep

/-! ## What every request's work comes to -/

namespace Sys2Proof.Machine.EveryStep

open Sys2Proof Sys2Proof.Machine Sys2Proof.Machine.Quotes Sys2Proof.Machine.VendingFloat Sys2Proof.Machine.Directory
  Sys2Proof.Machine.LanesAndArbiter Sys2Proof.Machine.VoidedQuotes

/-! ### The free pool through an event inside a request -/

theorem strike_free {n : Note} {s : State} (h : (strike n s).ast.free = []) : s.ast.free = [] := by
  obtain ⟨-, hpool, -⟩ := strike_voided n s
  rw [h] at hpool
  exact (List.append_eq_nil_iff.mp hpool.nil_eq.symm).1

theorem zeroise_free {s : State} (h : (zeroise s).2.ast.free = []) : s.ast.free = [] := by
  have hwrite (t : State) : (zeroiseWrite t).2.ast = t.ast := by
    unfold zeroiseWrite
    obtain ⟨v, hw | hw⟩ := retained_cases t
      (fun t => (true, (t.withZks { t.zks with slots := Vector.replicate 16 .erased, erasing := [] }).withFmn
        { t.fmn with zeroisePending := false, configLock := false, lockKey := 0 })) fun t => (false, t)
    all_goals
      rw [hw]
      rfl
  rw [zeroise, hwrite] at h
  have hbefore := strike_free h
  exact hbefore

theorem assertTamper_free {s : State} (h : (assertTamper s).ast.free = []) : s.ast.free = [] := by
  unfold assertTamper at h
  dsimp only at h
  split at h
  · exact h
  · split at h
    · exact zeroise_free (s := s.withTamper true) h
    · exact h

theorem takeBreak_free {s : State} (h : (takeBreak s).ast.free = []) : s.ast.free = [] := by
  unfold takeBreak at h
  split at h
  · exact h
  · unfold linkBreakReset at h
    dsimp only at h
    rw [State.withLqa_ast] at h
    have hbefore := strike_free h
    exact hbefore

theorem takeEvents_free : ∀ (events : List (Nat × MidEvent)) {s : State}, (takeEvents events s).ast.free = [] → s.ast.free = []
  | [], _, h => h
  | (0, .tamper) :: rest, _, h => assertTamper_free (takeEvents_free rest h)
  | (0, .linkBreak) :: rest, _, h => takeBreak_free (takeEvents_free rest h)
  | (0, .fault _) :: rest, s, h => takeEvents_free rest (s := raise _ s) h
  | (_ + 1, _) :: _, _, h => h

/-- No event inside a request takes a slot from the free pool. -/
theorem midEvent_free {s : State} (h : (midEvent s).ast.free = []) : s.ast.free = [] := takeEvents_free _ h

/-! ### What a request's work comes to -/

/-- Work on `s` ends in an answer and a state that comes orderly from `s`, or in one of the model's two stops, which `s` met. -/
inductive Ends (s : State) : Served → Prop
  | answered (a : Answer) {t : State} (h : Orderly s t) : Ends s (.next (a, t))
  | poolEmpty (h : s.ast.free = []) : Ends s (.fault .freePoolEmpty)
  | quoteIssuing {k : Nat} {q : Quote} (hq : s.quoteAt k = some q) (hi : q.state = .issuing) : Ends s (.fault .quoteIssuing)

theorem Ends.refuse {s t : State} (st : Status) (h : Orderly s t) : Ends s (refuse st t) := .answered _ h

theorem Ends.ite {s : State} {p : Prop} [Decidable p] {x y : Served} (hx : Ends s x) (hy : Ends s y) : Ends s (if p then x else y) := by
  split
  · exact hx
  · exact hy

/-- Work that begins after an orderly part of it which takes no slot. -/
theorem Ends.after {s t : State} {r : Served} (h : Orderly s t) (hfree : t.ast.free = [] → s.ast.free = []) (k : Ends t r) : Ends s r := by
  cases k with
  | answered a hu => exact .answered a (h.trans hu)
  | poolEmpty he => exact .poolEmpty (hfree he)
  | quoteIssuing hq hi => exact .quoteIssuing (h.issuing _ _ hq hi) hi

/-- A retained write: both ways begin on a state with the directory as it was. -/
theorem Ends.retained {s t : State} (h : Orderly s t) {made failed : State → Served}
    (hmade : ∀ u, Orderly s u → u.dir = t.dir → Ends s (made u)) (hfailed : ∀ u, Orderly s u → Ends s (failed u)) :
    Ends s (retained t made failed) := by
  obtain ⟨v, hw | hw⟩ := retained_cases t made failed
  · rw [hw]
    exact hmade _ (h.trans (.withEnv t v)) rfl
  · rw [hw]
    exact hfailed _ ((h.trans (.withEnv t v)).trans (raise_orderly .storeWrite _))

theorem Ends.writeOr {s t : State} (h : Orderly s t) {made : State → Served} (hmade : ∀ u, Orderly s u → Ends s (made u)) :
    Ends s (writeOr t made) :=
  .retained h (fun u hu _ => hmade u hu) fun _ hu => .refuse _ hu

theorem Ends.writeVersion {s : State} {r : Record} {next : Nat → State → Served}
    (hnext : ∀ slot t, Orderly s t → t.dir = s.dir → Ends s (next slot t)) : Ends s (writeVersion r s next) := by
  unfold Machine.writeVersion
  cases hfree : s.ast.free with
  | nil =>
    simp only [takeSlot, hfree]
    exact .poolEmpty hfree
  | cons slot rest =>
    simp only [takeSlot, hfree]
    have hpool : Orderly s (s.withAst { s.ast with free := rest }) := .withAst id
    exact .retained hpool (fun u hu hdir => hnext slot _ (hu.trans (writeSlot_orderly ..)) hdir) fun u hu =>
      .refuse _ (hu.trans (freeSlot_orderly ..))

theorem Ends.replaceRecord {s : State} {e : Entry} {r : Record} {flag : Option Bool} {next : State → Served}
    (hnext : ∀ t, Orderly s t → Ends s (next t)) : Ends s (replaceRecord e r flag s next) := by
  refine .writeVersion fun slot t ht _ => .retained ht (fun u hu _ => hnext _ ?_) fun u hu => .refuse _ (hu.trans (freeSlot_orderly ..))
  refine (hu.trans (.withDir fun hordered => ?_)).trans (freeSlot_orderly ..)
  split
  · exact mark_ordered _ _ (swap_ordered _ _ hordered)
  · exact swap_ordered _ _ hordered

/-- Work under the cipher, and what goes on from its result. -/
theorem Ends.served {α : Type} {s t : State} {r : Res α} {f : α → State → Served} (h : Orderly s t) (hr : Orderly t (resState r))
    (hf : ∀ a u, Orderly s u → Ends s (f a u)) : Ends s (r.served f) := by
  cases r with
  | ok a u => exact hf a u (h.trans hr)
  | no e u => exact .answered e (h.trans hr)

/-! ### Records and the directory (chapter 01) -/

theorem quarantine_orderly (meter : Nat) (s : State) : Orderly s (quarantine meter s) := by
  have hdraw := drawWrite_orderly s
  unfold quarantine
  split <;> rename_i t ht <;> rw [ht] at hdraw
  · exact (hdraw.trans (.withDir (mark_ordered meter true))).trans (raise_orderly _ _)
  · exact hdraw.trans (raiseBeside_orderly _ _)

theorem findRecord_bad_orderly {meter : Nat} {s t : State} {e : Entry} (h : findRecord meter s = .bad e t) : Orderly s t := by
  unfold findRecord at h
  split at h
  · cases h
  · split at h
    · cases h
      exact .refl s
    · split at h
      · cases h
      · cases h
        exact quarantine_orderly meter s

section Records

variable (s : State)

theorem queryBody_ends (meter : Nat) : Ends s (queryBody meter s) := by
  unfold queryBody
  split
  case h_1 => exact .refuse _ (.refl s)
  case h_2 hbad => exact .answered _ (findRecord_bad_orderly hbad)
  case h_3 => exact .answered _ (.refl s)

/-- An ENROL taken finds no change pending, so the change it starts is the only one (R11, R146). -/
theorem enrolBody_ends (hidle : s.dir.change = none) (meter plan revision eligible arrears rate : Nat) :
    Ends s (enrolBody meter plan revision eligible arrears rate s) := by
  unfold enrolBody
  split
  · exact .refuse _ (.refl s)
  · rename_i hrange
    split
    · exact .refuse _ (.refl s)
    · rename_i hnew
      split
      · exact .refuse _ (.refl s)
      · rename_i hroom
        have hstart (zone : Nat) (r : Record) : Ends s (enrolStart meter zone r s) := by
          refine .writeVersion fun slot t ht hdir => .retained ht (fun u hu hdir' => .answered _ (hu.trans (.withDir fun h => ?_)))
            fun u hu => .refuse _ (hu.trans (freeSlot_orderly ..))
          rw [hdir', hdir] at h ⊢
          exact enrolling_ordered h hidle (fun hout => hrange (hout.elim .inl fun hbig => .inr (.inl hbig)))
            (Option.not_isSome_iff_eq_none.mp hnew) (Nat.lt_of_not_le hroom)
        split
        · exact .refuse _ (.refl s)
        · exact .refuse _ (.refl s)
        · exact .ite (.refuse _ (.refl s)) (hstart _ _)

theorem retireStart_ends {s t : State} (h : Orderly s t) {e : Entry} (hidle : t.dir.change = none)
    (hpresent : e.meter ∈ meters t.dir.entries) (writtenOff : Option Nat) : Ends s (retireStart e writtenOff t) :=
  .retained h (fun _ hu hdir => .answered _ (hu.trans (.withDir fun hordered => by
    rw [hdir] at hordered ⊢
    exact retiring_ordered hordered hidle hpresent))) fun _ hu => .refuse _ hu

theorem quarantine_dir (meter : Nat) (s : State) : (quarantine meter s).dir = s.dir.mark meter true ∨ (quarantine meter s).dir = s.dir := by
  have hdraw := (drawWrite_keeps s).dir
  unfold quarantine
  split <;> rename_i t ht <;> rw [ht] at hdraw
  · exact .inl (congrArg (·.mark meter true) hdraw)
  · rw [raiseBeside_eq]
    exact .inr hdraw

/-- A RETIRE taken finds no change pending, and the meter it names has an entry, marked or not (R12, R146). -/
theorem retireBody_ends (hidle : s.dir.change = none) (meter writeOff : Nat) : Ends s (retireBody meter writeOff s) := by
  have hbad := quarantine_orderly meter s
  refine .ite (.refuse _ (.refl s)) ?_
  split
  · exact .refuse _ (.refl s)
  · rename_i e hfound
    obtain ⟨rfl, hpresent⟩ := mem_meters_of_lookup hidle hfound
    have hmarked : (quarantine e.meter s).dir.change = none ∧ e.meter ∈ meters (quarantine e.meter s).dir.entries := by
      obtain hdir | hdir := quarantine_dir e.meter s <;> rw [hdir]
      · refine ⟨by simp [Dir.mark, Dir.update, hidle], ?_⟩
        have hview := update_meters (d := s.dir) e.meter (f := fun e => { e with quarantined := true }) fun _ => rfl
        simp only [Dir.view, Dir.update, hidle] at hview
        exact hview ▸ hpresent
      · exact ⟨hidle, hpresent⟩
    obtain ⟨hidle', hpresent'⟩ := hmarked
    exact .ite (.refuse _ (.refl s)) (.ite (.ite (retireStart_ends (.refl s) hidle hpresent _) (.refuse _ (.refl s)))
      (.ite (.ite (retireStart_ends hbad hidle' hpresent' _) (.refuse _ hbad))
        (.ite (.refuse _ (.refl s)) (retireStart_ends (.refl s) hidle hpresent _))))

theorem restoreBody_ends (meter : Nat) (f : RestoreFields) : Ends s (restoreBody meter f s) := by
  refine .ite (.refuse _ (.refl s)) ?_
  split
  · exact .refuse _ (.refl s)
  · exact .ite (.refuse _ (.refl s)) (.replaceRecord fun _ ht => .answered _ ht)

theorem amendBody_ends (meter : Nat) (f : AmendFields) : Ends s (amendBody meter f s) := by
  unfold amendBody
  split
  case h_1 => exact .refuse _ (.refl s)
  case h_2 hbad => exact .refuse _ (findRecord_bad_orderly hbad)
  case h_3 =>
    exact .ite (.refuse _ (.refl s)) (.ite (.refuse _ (.refl s)) (.ite (.refuse _ (.refl s)) (.replaceRecord fun _ ht => .answered _ ht)))

theorem suspendQuote_orderly (meter : Nat) : Orderly s (suspendQuote meter s).2 := by
  unfold suspendQuote
  split
  · split
    · exact voidWaiting_orderly _ _ s
    · exact .refl s
  · exact .refl s

theorem suspendBody_ends (meter : Nat) : Ends s (suspendBody meter s) := by
  unfold suspendBody
  split
  case h_1 => exact .refuse _ (.refl s)
  case h_2 hbad => exact .refuse _ (findRecord_bad_orderly hbad)
  case h_3 => exact .ite (.answered _ (.refl s)) (.replaceRecord fun t ht => .answered _ (ht.trans (suspendQuote_orderly t meter)))

theorem resumeBody_ends (meter : Nat) : Ends s (resumeBody meter s) := by
  unfold resumeBody
  split
  case h_1 => exact .refuse _ (.refl s)
  case h_2 hbad => exact .refuse _ (findRecord_bad_orderly hbad)
  case h_3 => exact .ite (.answered _ (.refl s)) (.replaceRecord fun _ ht => .answered _ ht)

end Records

/-! ### Zones, keys, tariffs, the float, the clock and the monitor (chapters 02, 03, 06 to 10) -/

section Settings

variable (s : State)

theorem zoneSetBody_ends (zone : Nat) (f : ZoneFields) : Ends s (zoneSetBody zone f s) := by
  refine .ite (.refuse _ (.refl s)) (.ite (.refuse _ (.refl s)) (.ite (.refuse _ (.refl s)) (.ite (.refuse _ (.refl s)) ?_)))
  split
  · exact .answered _ (.refl s)
  · exact .writeOr (.refl s) fun t ht => .answered _ (ht.trans (.withZks t _))

theorem keyRollBody_ends (zone slot : Nat) : Ends s (keyRollBody zone slot s) := by
  refine .ite (.refuse _ (.refl s)) (.ite (.refuse _ (.refl s)) ?_)
  split
  · exact .refuse _ (.refl s)
  · exact .ite (.refuse _ (.refl s)) (.ite (.answered _ (.refl s)) (.writeOr (.refl s) fun t ht => .answered _ (ht.trans (.withZks t _))))

theorem storeKey_ends {s t : State} (h : Orderly s t) (slot : Nat) (key : Block) : Ends s (storeKey slot key t) :=
  .ite (.refuse _ h) (.writeOr h fun u hu => .answered _ (hu.trans (.withZks u _)))

theorem keyLoadBody_ends (slot key check : Nat) : Ends s (keyLoadBody slot key check s) :=
  .ite (.refuse _ (.refl s)) (.ite (.refuse _ (.refl s)) (.ite (.refuse _ (.refl s)) (.ite (.refuse _ (.refl s))
    (.served (.refl s) (loadedKey_orderly _ _ s) fun _ t ht =>
      .served ht (plainUse_orderly t) fun _ _ hu => .ite (storeKey_ends hu _ _) (.refuse _ hu)))))

theorem loadPlanBody_ends (index clear : Nat) (f : PlanFields) : Ends s (loadPlanBody index clear f s) :=
  .ite (.refuse _ (.refl s)) (.ite (.refuse _ (.refl s)) (.writeOr (.refl s) fun t ht => .answered _ (ht.trans (.withTtb t _))))

theorem armPlansBody_ends (disarm month : Nat) : Ends s (armPlansBody disarm month s) := by
  have harm (m : Option Nat) : Ends s (armWith m s) := .writeOr (.refl s) fun t ht => .answered _ (ht.trans (.withTtb t _))
  exact .ite (.refuse _ (.refl s)) (.ite (.refuse _ (.refl s)) (.ite (harm _) (.ite (.answered _ (.refl s)) (harm _))))

theorem setClockBody_ends (minute : Nat) : Ends s (setClockBody minute s) :=
  .ite (.refuse _ (.refl s)) (.ite (.answered _ (.refl s)) (.answered _ (jumpClock_orderly minute s)))

theorem setBoundaryBody_ends (clear minute : Nat) : Ends s (setBoundaryBody clear minute s) := by
  have hset (b : Option Nat) : Ends s (boundaryWith b s) := .writeOr (.refl s) fun t ht => .answered _ (ht.trans (.withClk t _))
  exact .ite (.refuse _ (.refl s)) (.ite (hset _) (.ite (.answered _ (.refl s)) (hset _)))

theorem statementBody_ends (again : Nat) : Ends s (statementBody again s) := by
  refine .ite (.refuse _ (.refl s)) (.ite ?_ ?_)
  · split
    · exact .answered _ (.refl s)
    · exact .refuse _ (.refl s)
  · exact .served (.refl s) (authenticator_orderly _ s) fun _ _ ht => .writeOr ht fun u hu => .answered _ (hu.trans (.withFlt u _))

theorem grantBody_ends (sequence amount hours number auth : Nat) : Ends s (grantBody sequence amount hours number auth s) :=
  .ite (.refuse _ (.refl s)) (.served (.refl s) (authenticator_orderly _ s) fun _ _ ht =>
    .ite (.refuse _ ht) (.ite (.answered _ ht) (.writeOr ht fun u hu => .answered _ (hu.trans (.withFlt u _)))))

theorem setLimitsBody_ends (ceiling cap lease : Nat) : Ends s (setLimitsBody ceiling cap lease s) :=
  .ite (.refuse _ (.refl s)) (.ite (.refuse _ (.refl s)) (.ite (.refuse _ (.refl s))
    (.writeOr (.refl s) fun t ht => .answered _ (ht.trans (.withFlt t _)))))

/-- A level set by hand is clamped to 6 (R156). -/
theorem setHoldBody_ends (level : Nat) : Ends s (setHoldBody level s) :=
  .answered _ (.withFmn fun ⟨hdepth, _, hentries⟩ => ⟨hdepth, Nat.min_le_right _ _, hentries⟩)

/-- The top entry's saved level is one of 0 to 6 (R153, R157). -/
theorem ackFaultBody_ends : Ends s (ackFaultBody s) := by
  unfold ackFaultBody
  split
  · exact .refuse _ (.refl s)
  · rename_i e rest hstack
    have hpop : Orderly s (popHold e rest s) := by
      refine .withFmn fun ⟨hdepth, _, hentries⟩ => ?_
      rw [hstack, List.length_cons] at hdepth
      rw [hstack] at hentries
      exact ⟨Nat.le_of_succ_le hdepth, (hentries e List.mem_cons_self).1, fun x hx => hentries x (List.mem_cons_of_mem _ hx)⟩
    exact .answered _ (hpop.trans (retest_orderly _))

/-- A level above 6 has been refused before the write (R144). -/
theorem laneLevelBody_ends (counter level : Nat) : Ends s (laneLevelBody counter level s) := by
  unfold laneLevelBody
  split
  · exact .refuse _ (.refl s)
  · split
    · exact .refuse _ (.refl s)
    · rename_i hrange
      refine .writeOr (.refl s) fun t ht => .answered _ (ht.trans (.withLqa (fun ⟨hlevels, hpointers⟩ => ⟨fun v hv => ?_, hpointers⟩)
        fun _ => .inl rfl))
      obtain hv | rfl := mem_put hv
      · exact hlevels v hv
      · omega

theorem lockBody_ends (key : Nat) : Ends s (lockBody key s) :=
  .ite (.refuse _ (.refl s)) (.ite (.refuse _ (.refl s)) (.writeOr (.refl s) fun _ ht => .answered _ (ht.trans (.withFmn id))))

theorem unlockBody_ends (key : Nat) : Ends s (unlockBody key s) :=
  .ite (.answered _ (.refl s)) (.ite (.refuse _ (.refl s)) (.ite (.refuse _ (.refl s))
    (.writeOr (.refl s) fun _ ht => .answered _ (ht.trans (.withFmn id)))))

theorem setLinkBody_ends (divisor parity stopBits : Nat) : Ends s (setLinkBody divisor parity stopBits s) := by
  unfold setLinkBody
  split
  · exact .refuse _ (.refl s)
  · exact .ite (.answered _ (.refl s)) (.refuse _ (.refl s))

theorem setCountersignBody_ends (period threshold : Nat) : Ends s (setCountersignBody period threshold s) :=
  .ite (.refuse _ (.refl s)) (.ite (.refuse _ (.refl s))
    (.retained (.refl s) (fun _ ht _ => .answered _ (ht.trans (.withReview rfl))) fun _ ht => .refuse _ ht))

end Settings

/-! ### QUOTE (R71 to R76) -/

section Quote

variable (s : State) (lane : Nat)

/-- A quote is opened OPEN or HELD (R74). -/
theorem openQuote_orderly (q : Quote) (h : q.state ≠ .issuing) : Orderly s (openQuote lane q s) := by
  have hplaced : Orderly s (placeQuote lane q s) := by
    have hset := setQuote_orderly lane (some q) (s.withFlt { s.flt with reserved := s.flt.reserved + q.accepted })
      fun p hp => Option.some.inj hp ▸ h
    unfold placeQuote
    exact .ite (((Orderly.withFlt s _).trans hset).trans (.withReview rfl)) ((Orderly.withFlt s _).trans hset)
  unfold openQuote
  dsimp only
  split
  · exact hplaced.trans (voidWaiting_orderly _ _ _)
  · exact hplaced

theorem quotePriced_ends (offered : Nat) (e : Entry) (r : Record) (key : KeyRef) (change : Option KeyRef) :
    Ends s (quotePriced lane offered e r key change s) := by
  have hevent := midEvent_orderly s
  unfold quotePriced
  refine .ite (.refuse _ hevent) (.ite (.refuse _ hevent) (.ite (.refuse _ hevent) ?_))
  split
  · exact .refuse _ hevent
  · split
    · exact .refuse _ hevent
    · refine .ite (.refuse _ hevent) (.ite (.refuse _ hevent) (.ite (.answered _ hevent) ?_))
      refine .after (hevent.trans (midEvent_orderly _)) (fun hfree => midEvent_free (midEvent_free hfree)) (.writeVersion fun slot t ht _ =>
        .answered _ ((ht.trans (midEvent_orderly t)).trans (openQuote_orderly _ lane _ ?_)))
      simp only [newQuote]
      split <;> simp

theorem quoteKeyed_ends (offered : Nat) (e : Entry) (r : Record) (key : KeyRef) (change : Option KeyRef) :
    Ends s (quoteKeyed lane offered e r key change s) := by
  have hevent := midEvent_orderly s
  unfold quoteKeyed
  dsimp only
  split
  · exact .answered _ hevent
  · exact .after hevent midEvent_free (quotePriced_ends ..)

theorem quoteFound_ends (meter offered : Nat) (e : Entry) (r : Record) : Ends s (quoteFound lane meter offered e r s) := by
  refine .ite (.refuse _ (.refl s)) (.ite (.refuse _ (.refl s)) (.ite (.refuse _ (.refl s)) ?_))
  split
  · exact .answered _ (.refl s)
  · exact quoteKeyed_ends ..
  · exact quoteKeyed_ends ..

theorem quoteBody_ends (meter offered : Nat) : Ends s (quoteBody lane meter offered s) := by
  have hevent := (setNote_orderly lane .none s).trans (midEvent_orderly _)
  refine .ite (.refuse _ hevent) ?_
  split
  case h_1 => exact .refuse _ hevent
  case h_2 hbad => exact .refuse _ (hevent.trans (findRecord_bad_orderly hbad))
  case h_3 =>
    refine .after (hevent.trans (midEvent_orderly _)) (fun hfree => ?_) (quoteFound_ends ..)
    have hnoted := midEvent_free (midEvent_free hfree)
    rwa [setNote_eq] at hnoted

end Quote

/-! ### ISSUE, WITHDRAW, COUNTERSIGN, REPRINT and VERIFY (R79 to R85, R96, R108 to R114) -/

section Sales

variable (s : State)

/-- An issue from ISSUING on: the one quote in that state has left the table when it ends. -/
theorem Orderly.ofIssuing {lane : Nat} {q : Option Quote} {s t : State} (h : Orderly (setQuote lane q s) t) (h0 : lane ≠ 0)
    (hempty : t.quoteAt lane = none) : Orderly s t where
  pending := by rw [h.pending, setQuote_eq]; rfl
  serving hs := h.serving (by rw [setQuote_eq]; exact hs)
  issuing k p hp hi := by
    have hk : k ≠ lane := by
      rintro rfl
      rw [hempty] at hp
      cases hp
    exact (quoteAt_setQuote_other q s h0 hk).symm.trans (h.issuing k p hp hi)
  fmn hs := h.fmn (by rw [setQuote_eq]; exact hs)
  queues hs := h.queues (by rw [setQuote_eq]; exact hs)
  lqa hs := h.lqa (by rw [setQuote_eq]; exact hs)
  uses hs := h.uses (by rw [setQuote_eq]; exact hs)
  slots hs := h.slots (by rw [setQuote_eq]; exact hs)
  dir hs := h.dir (by rw [setQuote_eq]; exact hs)

theorem voidQuote_empty (lane : Nat) (t : State) : (voidQuote lane t).quoteAt lane = none := by
  cases hq : t.quoteAt lane with
  | none => rwa [voidQuote_none hq]
  | some q => rw [voidQuote_quoteAt hq, if_pos rfl]

theorem closeSale_orderly (lane : Nat) (q : Quote) (t : State) : Orderly t (closeSale lane q t) := by
  have hempty : Orderly t (setQuote lane none t) := setQuote_orderly lane none t fun _ h => by cases h
  have hcounted : Orderly (setQuote lane none t) ((setQuote lane none t).withQtb (countIssue (setQuote lane none t).qtb)) :=
    .withReview (by rw [countIssue_eq])
  exact (hempty.trans hcounted).trans (releaseReview_orderly _ _)

theorem commitStep_orderly (q : Quote) (t : State) : Orderly t (commitStep q t) := by
  have hswap : Orderly t (t.withDir (t.dir.swap q.meter q.shadow)) := .withDir (swap_ordered _ _)
  exact (hswap.trans (freeSlot_orderly _ _)).trans (.withFlt _ _)

theorem failIssue_ends {lane : Nat} {q : Option Quote} {s t : State} (a : Answer) (h0 : lane ≠ 0) (h : Orderly (setQuote lane q s) t) :
    Ends s (failIssue lane a t) :=
  .answered a ((h.trans (voidQuote_orderly lane t)).ofIssuing h0 (voidQuote_empty lane t))

theorem commitIssue_ends {lane : Nat} {q : Quote} {p : Option Quote} {s t : State} (tid : Nat) (tokens : List Block) (h0 : lane ≠ 0)
    (h8 : lane ≤ 8) (h : Orderly (setQuote lane p s) t) : Ends s (commitIssue lane q tid tokens t) := by
  unfold commitIssue
  obtain ⟨v, hw | hw⟩ := retained_cases t
    (fun t => retained (writeSlot q.shadow (q.complete tid (t.record q.shadow)).sealed t)
      (fun u => answered (Answer.ok (issuePayload q tid tokens)) (closeSale lane q (commitStep q u)))
      (failIssue lane (Answer.bare .storeFault))) (failIssue lane (Answer.bare .storeFault))
  · rw [hw]
    have hdrawn := (h.trans (.withEnv t v)).trans (writeSlot_orderly q.shadow (q.complete tid ((t.withEnv v).record q.shadow)).sealed _)
    generalize writeSlot q.shadow _ _ = u at hdrawn
    obtain ⟨w, hw' | hw'⟩ := retained_cases u (fun u => answered (Answer.ok (issuePayload q tid tokens))
      (closeSale lane q (commitStep q u))) (failIssue lane (Answer.bare .storeFault))
    · rw [hw']
      have hclosed := ((hdrawn.trans (.withEnv u w)).trans (commitStep_orderly q _)).trans (closeSale_orderly lane q _)
      refine .answered _ (hclosed.ofIssuing h0 ?_)
      rw [closeSale_quoteAt, quoteAt_setQuote_same _ _ h0 h8]
    · rw [hw']
      exact failIssue_ends _ h0 ((hdrawn.trans (.withEnv u w)).trans (raise_orderly .storeWrite _))
  · rw [hw]
    exact failIssue_ends _ h0 ((h.trans (.withEnv t v)).trans (raise_orderly .storeWrite _))

theorem proceedIssue_ends {lane : Nat} {q : Quote} (hq : s.quoteAt lane = some q) : Ends s (proceedIssue lane q s) := by
  obtain ⟨h0, h8⟩ := quoteAt_some_lane hq
  unfold proceedIssue
  dsimp only
  refine .ite (failIssue_ends _ h0 (.refl _)) ?_
  split <;> rename_i t hform <;> have hset := hform ▸ formSet_orderly ..
  · exact failIssue_ends _ h0 hset
  · exact commitIssue_ends _ _ h0 h8 hset

theorem answerNote_ends (lane : Nat) : Ends s (answerNote lane s) := by
  have hnote := setNote_orderly lane .none s
  unfold answerNote
  split
  · exact .refuse _ hnote
  · exact .refuse _ hnote
  · exact .refuse _ (.refl s)

theorem issueBody_ends (lane : Nat) : Ends s (issueBody lane s) := by
  unfold issueBody
  split
  case h_1 => exact answerNote_ends s lane
  case h_2 q hq =>
    split
    case h_1 => exact .refuse _ (.refl s)
    case h_2 hissuing => exact .quoteIssuing hq hissuing
    case h_3 => exact .ite (.refuse _ (.refl s)) (proceedIssue_ends s hq)

theorem withdrawBody_ends (lane : Nat) : Ends s (withdrawBody lane s) := by
  unfold withdrawBody
  split
  case h_1 => exact answerNote_ends s lane
  case h_2 q hq =>
    split
    case isTrue hissuing => exact .quoteIssuing hq hissuing
    case isFalse => exact .answered _ (voidQuote_orderly lane s)

theorem countersignBody_ends (counter : Nat) : Ends s (countersignBody counter s) := by
  refine .ite (.refuse _ (.refl s)) ?_
  split
  · refine .ite (.answered _ (setQuote_orderly counter _ s fun p hp => ?_)) (.refuse _ (.refl s))
    cases hp
    simp
  · exact .refuse _ (.refl s)

theorem reprintKeyed_ends (meter : Nat) (r : Record) (i : LastIssue) (key : KeyRef) (change : Option KeyRef) :
    Ends s (reprintKeyed meter r i key change s) := by
  unfold reprintKeyed
  split
  · exact .answered _ (.refl s)
  · exact .ite (.refuse _ (.refl s)) (.served (.refl s) (formSet_orderly ..) fun _ _ ht => .answered _ ht)

theorem reprintFound_ends (meter : Nat) (r : Record) : Ends s (reprintFound meter r s) := by
  unfold reprintFound
  split
  · exact .refuse _ (.refl s)
  · dsimp only
    split
    · split
      · exact reprintKeyed_ends ..
      · exact .answered _ (.refl s)
    · split
      · exact reprintKeyed_ends ..
      · exact .answered _ (.refl s)

theorem reprintBody_ends (meter : Nat) : Ends s (reprintBody meter s) := by
  unfold reprintBody
  split
  case h_1 => exact .refuse _ (.refl s)
  case h_2 hbad => exact .refuse _ (findRecord_bad_orderly hbad)
  case h_3 => exact reprintFound_ends ..

theorem verifySecond_ends {s t : State} (h : Orderly s t) (meter : Nat) (r : Record) (token : Block) :
    Ends s (verifySecond meter r token t) := by
  unfold verifySecond
  split
  · exact .ite (.answered _ h) (.ite (.served h (attempt_orderly ..) fun _ _ hu => .answered _ hu) (.answered _ h))
  · exact .answered _ h

theorem verifyFound_ends (meter : Nat) (r : Record) (token : Block) : Ends s (verifyFound meter r token s) := by
  unfold verifyFound
  split
  · exact .answered _ (.refl s)
  · refine .ite (.answered _ (.refl s)) (.ite (.refuse _ (.refl s)) (.served (.refl s) (attempt_orderly ..) fun d t ht => ?_))
    cases d with
    | some x => exact .answered _ ht
    | none => exact verifySecond_ends ht ..

theorem verifyBody_ends (meter token : Nat) : Ends s (verifyBody meter token s) := by
  unfold verifyBody
  split
  case h_1 => exact .refuse _ (.refl s)
  case h_2 hbad => exact .refuse _ (findRecord_bad_orderly hbad)
  case h_3 => exact verifyFound_ends ..

end Sales

end Sys2Proof.Machine.EveryStep

/-! ## From the work to the step: O3, O58 and O60 -/

namespace Sys2Proof.Machine.EveryStep

open Sys2Proof Sys2Proof.Machine Sys2Proof.Machine.VendingFloat Sys2Proof.Machine.Directory Sys2Proof.Machine.LanesAndArbiter

/-! ### From the grant to the reply (R147, R149) -/

/-- A grant changes the lane queues' block and what the engine serves, and nothing else. -/
theorem grantTo_frame {lane : Nat} {r : Request} {s g : State} (hg : grantTo lane r s = some g) :
    g = (s.withLqa g.lqa).withServing (some ⟨lane, r.tag, r.kind, true, none⟩) := by
  obtain ⟨queues, t, rest, rfl, -, -, -, -, rfl⟩ := grantTo_head hg
  rw [granted_eq]
  rfl

/-- A grant shortens one queue, or leaves it empty, and takes a place that was free. -/
theorem grantTo_queues {lane : Nat} {r : Request} {s g : State} (hg : grantTo lane r s = some g) (h : s.queuesBounded) :
    g.queuesBounded := by
  have hlane := grantTo_lane_le hg
  obtain ⟨queues, t, rest, rfl, hothers, hfound, -, hnext, rfl⟩ := grantTo_head hg
  obtain ⟨-, hserving, hplace, -⟩ := nextLane_some hnext
  obtain ⟨hlanes, -⟩ := h
  refine ⟨fun k hk => ?_, ?_⟩
  · rw [queueAt_granted]
    by_cases hk' : k = lane
    · subst hk'
      rw [queueAt_setQueue_same _ _ hlane]
      obtain hq | ⟨-, rfl⟩ := hfound
      · have hbound := hlanes k hk
        rw [hq, List.length_cons] at hbound
        omega
      · exact Nat.zero_le _
    · rw [queueAt_setQueue_other _ _ hk', hothers k hk']
      exact hlanes k hk
  · have hroom := replies_lt_of_placeFree hserving hplace
    rw [granted_eq]
    exact hroom

/-- A grant points its level's turn at a counter lane (R148). -/
theorem grantTo_lqa {lane : Nat} {r : Request} {s g : State} (hg : grantTo lane r s = some g) (h : s.lqa.bounded) : g.lqa.bounded := by
  have hlane := grantTo_lane_le hg
  obtain ⟨queues, t, rest, rfl, -, -, -, -, rfl⟩ := grantTo_head hg
  obtain ⟨hlevels, hpointers⟩ := h
  refine ⟨?_, fun p hp => ?_⟩
  · rw [granted_frame]
    exact hlevels
  · rw [granted_pointers] at hp
    split at hp
    · exact hpointers p hp
    · obtain hp | rfl := mem_put hp
      · exact hpointers p hp
      · omega

/-- The reply takes the place that was held for it, and no other (R149). -/
theorem finish_queues (a : Answer) {s : State} (h : s.queuesBounded) : (finish a s).queuesBounded := by
  obtain ⟨hlanes, hreplies⟩ := h
  refine ⟨fun k hk => ?_, ?_⟩
  · simp only [State.queueAt, finish_lqa]
    exact hlanes k hk
  · rw [finish_serving, finish_replies]
    cases hv : s.serving with
    | none =>
      rw [hv] at hreplies
      exact hreplies
    | some v =>
      rw [hv] at hreplies
      cases hheld : v.placeHeld
      all_goals
        simp only [Option.any_some, hheld] at hreplies
        simpa [hheld] using hreplies

/-- A request's work, orderly from the state after its grant, is orderly from its grant to its reply. -/
theorem Orderly.served {lane : Nat} {r : Request} {s g u : State} (a : Answer) (hg : grantTo lane r s = some g) (h : Orderly g u) :
    Orderly s (finish a u) := by
  have hframe := grantTo_frame hg
  refine ⟨?_, fun _ => finish_serving a u, fun k q hq hi => ?_, fun hs => ?_, fun hs => finish_queues a (h.queues (grantTo_queues hg hs)),
    fun hs => ?_, fun hs => ?_, fun hs => ?_, fun hs => ?_⟩
  · rw [finish_pending, h.pending, hframe]
    rfl
  · have hentry : g.quoteAt k = s.quoteAt k := by rw [hframe]; rfl
    rw [← hentry]
    refine h.issuing k q ?_ hi
    simpa only [State.quoteAt, finish_qtb] using hq
  · rw [finish_fmn]
    exact h.fmn (by rw [hframe]; exact hs)
  · rw [finish_lqa]
    exact h.lqa (grantTo_lqa hg hs)
  · rw [finish_tcu]
    exact h.uses (by rw [hframe]; exact hs)
  · rw [finish_ast]
    exact h.slots (by rw [hframe]; exact hs)
  · rw [finish_dir]
    exact h.dir (by rw [hframe]; exact hs)

/-! ### What a command comes to -/

/-- A command on `s` ends in a state that comes orderly from `s`, or in one of the model's two stops, which `s` met. -/
inductive Completes (s : State) : Host.Outcome State Fault Refusal → Prop
  | next {t : State} (h : Orderly s t) : Completes s (.next t)
  | poolEmpty (h : s.ast.free = []) : Completes s (.fault .freePoolEmpty)
  | quoteIssuing {k : Nat} {q : Quote} (hq : s.quoteAt k = some q) (hi : q.state = .issuing) : Completes s (.fault .quoteIssuing)

theorem serve_completes {i : Instr} {s : State} {body : State → Served} (h : ∀ g, taken i s = some g → Ends g (body g)) :
    Completes s (serve i s body) := by
  cases hi : i.request with
  | none =>
    simp only [serve, hi]
    exact .next (.refl s)
  | some x =>
    obtain ⟨lane, r⟩ := x
    cases hg : grantTo lane r s with
    | none =>
      rw [serve_waits body hi hg]
      exact .next (.refl s)
    | some g =>
      cases hb : barred lane r.kind g with
      | some st =>
        rw [serve_barred body hi hg hb]
        exact .next (.served _ hg (.refl g))
      | none =>
        have ht : taken i s = some g := by simp [taken, hi, hg, hb]
        have hframe := grantTo_frame hg
        have hends := h g ht
        rw [serve_taken ht]
        generalize body g = work at hends
        cases hends with
        | answered a hu => exact .next (.served a hg hu)
        | poolEmpty he => exact .poolEmpty (by rw [hframe] at he; exact he)
        | quoteIssuing hq hissuing => exact .quoteIssuing (by rw [hframe] at hq; exact hq) hissuing

theorem powered_completes {s : State} {f : State → State} (h : Orderly s (f s)) : Completes s (powered s f) :=
  .next (.ite h (.refl s))

/-- A supervisor's ENROL, RETIRE or RESTORE, once taken, finds no change pending in the directory (R146). -/
theorem taken_idle {i : Instr} {lane : Nat} {r : Request} {s g : State} (h : taken i s = some g) (hi : i.request = some (lane, r))
    (hkind : r.kind = 0x10 ∨ r.kind = 0x11 ∨ r.kind = 0x15) : g.dir.change = none := by
  obtain ⟨lane', r', hi', hg, hb⟩ := taken_some h
  cases hi.symm.trans hi'
  have hpermitted : permitted lane r.kind = true := by
    cases hp : permitted lane r.kind with
    | true => rfl
    | false =>
      rw [barred_eq, hp] at hb
      split at hb <;> cases hb
  have hlane : lane = 0 := by
    have := permitted_iff.mp hpermitted
    omega
  obtain ⟨lane', r', rest, hi', -, -, -, -, -, -, hdir, -⟩ := grantTakesRequest i s g h
  cases hi.symm.trans hi'
  rw [grantTo_frame hg]
  exact hdir hlane hkind

/-- Every command completes orderly but for the model's two stops. -/
theorem exec_completes (i : Instr) (s : State) : Completes s (exec i s) := by
  unfold exec
  cases i with
  | query => exact serve_completes fun g _ => queryBody_ends g _
  | list => exact serve_completes fun g _ => .answered _ (.refl g)
  | verify => exact serve_completes fun g _ => verifyBody_ends g _ _
  | quote => exact serve_completes fun g _ => quoteBody_ends g _ _ _
  | issue => exact serve_completes fun g _ => issueBody_ends g _
  | withdraw => exact serve_completes fun g _ => withdrawBody_ends g _
  | reprint => exact serve_completes fun g _ => reprintBody_ends g _
  | enrol => exact serve_completes fun g ht => enrolBody_ends g (taken_idle ht rfl (.inl rfl)) _ _ _ _ _ _
  | retire => exact serve_completes fun g ht => retireBody_ends g (taken_idle ht rfl (.inr (.inl rfl))) _ _
  | amend => exact serve_completes fun g _ => amendBody_ends g _ _
  | suspend => exact serve_completes fun g _ => suspendBody_ends g _
  | resume => exact serve_completes fun g _ => resumeBody_ends g _
  | restore => exact serve_completes fun g _ => restoreBody_ends g _ _
  | countersign => exact serve_completes fun g _ => countersignBody_ends g _
  | loadPlan => exact serve_completes fun g _ => loadPlanBody_ends g _ _ _
  | armPlans => exact serve_completes fun g _ => armPlansBody_ends g _ _
  | zoneSet => exact serve_completes fun g _ => zoneSetBody_ends g _ _
  | keyLoad => exact serve_completes fun g _ => keyLoadBody_ends g _ _ _
  | keyRoll => exact serve_completes fun g _ => keyRollBody_ends g _ _
  | setClock => exact serve_completes fun g _ => setClockBody_ends g _
  | setBoundary => exact serve_completes fun g _ => setBoundaryBody_ends g _ _
  | grant => exact serve_completes fun g _ => grantBody_ends g _ _ _ _ _
  | statement => exact serve_completes fun g _ => statementBody_ends g _
  | setHold => exact serve_completes fun g _ => setHoldBody_ends g _
  | ackFault => exact serve_completes fun g _ => ackFaultBody_ends g
  | laneLevel => exact serve_completes fun g _ => laneLevelBody_ends g _ _
  | setCountersign => exact serve_completes fun g _ => setCountersignBody_ends g _ _
  | setLimits => exact serve_completes fun g _ => setLimitsBody_ends g _ _ _
  | lock => exact serve_completes fun g _ => lockBody_ends g _
  | unlock => exact serve_completes fun g _ => unlockBody_ends g _
  | zeroise => exact serve_completes fun g _ => .answered _ (zeroise_orderly g)
  | status => exact serve_completes fun g _ => .answered _ (.refl g)
  | setLink => exact serve_completes fun g _ => setLinkBody_ends g _ _ _
  | unknownRequestKind => exact serve_completes fun g _ => .refuse _ (.refl g)
  | frameReceived => exact .next (.ite (foldl_orderly arriveChar_orderly _ s) (.refl s))
  | characterReceived => exact .next (.ite (arriveChar_orderly s _) (.refl s))
  | interByteTimeout =>
    refine powered_completes ?_
    split
    · exact .refl s
    · exact abandon_orderly _ s
    · exact abandon_orderly _ s
    · exact abandon_orderly _ s
    · exact .refl s
  | linkAnswerPlaced =>
    refine powered_completes ?_
    split
    · rename_i r _
      split
      · rename_i hfree
        have hplaced : Orderly s (pushReply r (setAsm .hunt s)) := (setAsm_orderly .hunt s).trans (pushReply_orderly r hfree)
        exact hplaced.trans (takeHolding_orderly _)
      · exact .refl s
    · exact .refl s
  | replySent => exact powered_completes (replySent_orderly s)
  | linkBreak => exact powered_completes (takeBreak_orderly s)
  | receiveWireReturnsHigh => exact powered_completes (.withOlk (Nat.le_refl _))
  | leaseExpiry => exact powered_completes (.ite (voidWaiting_orderly _ _ s) (.refl s))
  | deadlineExpiry => exact powered_completes (.ite (.withFlt s _) (.refl s))
  | monthRoll => exact powered_completes (.ite (rollMonth_orderly s) (.refl s))
  | monthRollRetry => exact powered_completes (.ite (.ite (retryStartRoll_orderly s) (rollMonth_orderly s)) (.refl s))
  | clockEnd => exact .next (.ite (.withClk s _) (.refl s))
  | clockSecond => exact .next (.withClk s _)
  | enrolMoveStep | placingStep | retireMoveStep | closingStep => exact powered_completes (takeStep_orderly _ s)
  | keyEraseRetry => exact powered_completes (.ite (retained_orderly (left := id) (fun t => .withZks t _) .refl) (.refl s))
  | zeroiseRetry => exact powered_completes (.ite ((zeroiseWrite_orderly s).trans (resumeStartUp_orderly _)) (.refl s))
  | tamperZeroise =>
    have htamper := assertTamper_orderly s
    exact .next (.ite (htamper.trans (resumeStartUp_orderly _)) htamper)
  | tamperReleased => exact .next (.withTamper s _)
  | powerOnReset => exact .next ((powerOnValues_orderly s).trans (startZeroise_orderly _))
  | supplyLoss => exact .next ((powerOnValues_orderly s).trans (.withSupply _ _))

/-- Settles O3: between two requests neither stop is met. -/
theorem everyCommandCompletes : Obligations.EveryCommandCompletes := by
  rintro c s ⟨-, hsettled⟩ hpool
  have hcommand := exec_completes c s
  generalize exec c s = outcome at hcommand
  cases hcommand with
  | next h => exact ⟨_, rfl, h.pending⟩
  | poolEmpty he => exact absurd he hpool
  | quoteIssuing hq hi =>
    have hnot := hsettled _ (mem_counterLanes.mpr (Quotes.quoteAt_some_lane hq))
    simp [hq, hi] at hnot

theorem exec_orderly {i : Instr} {s t : State} (he : exec i s = .next t) : Orderly s t := by
  have hcommand := exec_completes i s
  rw [he] at hcommand
  cases hcommand with
  | next h => exact h

/-- A step is a command on the state without it, or the part's own work: a command of its own or the transmitter's. -/
theorem step_orderly {s t : State} (he : Machine.step s = .next t) : ∃ rest, Orderly (s.withPending rest) t := by
  unfold Machine.step at he
  split at he
  · refine ⟨s.pending, ?_⟩
    unfold idle at he
    split at he
    · exact exec_orderly he
    · split at he
      · split at he
        · exact exec_orderly he
        · cases he
          exact .refl s
      · cases he
        exact txAdvance_orderly s
  · exact ⟨_, exec_orderly he⟩

/-- No quote is ISSUING after orderly work if none was before it (R70). -/
theorem Orderly.settled {s t : State} (h : Orderly s t) (hs : s.settled) : t.settled := by
  obtain ⟨hserving, hquotes⟩ := hs
  refine ⟨h.serving hserving, fun k hk => ?_⟩
  cases hq : t.quoteAt k with
  | none => rfl
  | some q =>
    refine decide_eq_true fun hissuing => ?_
    have hbefore := hquotes k hk
    simp [h.issuing k q hq hissuing, hissuing] at hbefore

/-- Settles O58: each bound is kept by itself. -/
theorem stepKeepsSteady : Obligations.StepKeepsSteady := by
  rintro s t ⟨hsettled, hfmn, hqueues, hlqa, huses, hslots⟩ he
  obtain ⟨rest, h⟩ := step_orderly he
  exact ⟨h.settled hsettled, h.fmn hfmn, h.queues hqueues, h.lqa hlqa, h.uses huses, h.slots hslots⟩

/-- Settles O60: the directory changes by steps, slot swaps, flags and the changes that ENROL and RETIRE begin. -/
theorem stepKeepsDirectoryOrder : Obligations.StepKeepsDirectoryOrder := by
  intro s t hordered he
  obtain ⟨rest, h⟩ := step_orderly he
  exact h.dir hordered

end Sys2Proof.Machine.EveryStep

/-! ## The link break, the zeroise and what voids release: O14, O33 and O52 -/

namespace Sys2Proof.Machine.VoidedQuotes

open Sys2Proof Sys2Proof.Machine Sys2Proof.Machine.KeysAndLock Sys2Proof.Machine.Quotes Sys2Proof.Machine.VendingFloat

/-! ### What the voids of a zeroise or a link break leave as it was (R161, R172) -/

theorem voidWaiting_lqa (n : Note) (lane : Nat) (s : State) :
    (voidWaiting n lane s).lqa = { s.lqa with notes := (voidWaiting n lane s).lqa.notes } := by
  have hvoid : (voidQuote lane s).lqa = s.lqa := by rw [voidQuote_eq]; rfl
  unfold voidWaiting
  split
  · rfl
  · split
    · rfl
    · unfold setNote
      split
      · rw [hvoid]
      · rw [State.withLqa_lqa, hvoid]

theorem voidAll_lqa (n : Note) (s : State) : (voidAll n s).lqa = { s.lqa with notes := (voidAll n s).lqa.notes } := by
  have hfold (ks : List Nat) (t : State) : ∃ notes, (ks.foldl (fun t k => voidWaiting n k t) t).lqa = { t.lqa with notes := notes } := by
    induction ks generalizing t with
    | nil => exact ⟨t.lqa.notes, rfl⟩
    | cons k ks ih =>
      obtain ⟨notes, h⟩ := ih (voidWaiting n k t)
      rw [voidWaiting_lqa] at h
      exact ⟨notes, h⟩
  obtain ⟨notes, h⟩ := hfold counterLanes s
  unfold voidAll
  rw [h]

/-- The voids change the notes, the quote table, the free pool, the float and the count of free values read, and what the request being
served remembers. -/
theorem strike_frame (n : Note) (s : State) : ∃ notes qtb ast flt reads,
    strike n s = (((((s.withLqa { s.lqa with notes := notes }).withQtb qtb).withAst ast).withFlt flt).withFreeReads reads).withServing
      (s.serving.map fun v => { v with cause := some n }) := by
  have h := voidAll_eq n s
  rw [voidAll_lqa] at h
  unfold strike
  rw [h]
  exact ⟨_, _, _, _, _, rfl⟩

/-- What the voids of a zeroise or a link break leave as it was. -/
structure StruckFrame (note : Note) (s t : State) : Prop where
  olk : t.olk = s.olk
  lqa : t.lqa = { s.lqa with notes := t.lqa.notes }
  serving : t.serving = s.serving.map fun v => { v with cause := some note }
  dir : t.dir = s.dir
  zks : t.zks = s.zks
  tcu : t.tcu = s.tcu
  ttb : t.ttb = s.ttb
  clk : t.clk = s.clk
  fmn : t.fmn = s.fmn
  tamper : t.tamper = s.tamper
  supply : t.supply = s.supply
  startUp : t.startUp = s.startUp
  pending : t.pending = s.pending
  env : t.env = s.env

theorem strike_struckFrame (note : Note) (s : State) : StruckFrame note s (strike note s) := by
  obtain ⟨notes, qtb, ast, flt, reads, hframe⟩ := strike_frame note s
  generalize strike note s = t at *
  subst hframe
  constructor <;> rfl

theorem mem_waitingQuotes {s : State} {q : Quote} :
    q ∈ s.waitingQuotes ↔ ∃ k ∈ counterLanes, s.quoteAt k = some q ∧ q.state ≠ .issuing := by
  simp only [State.waitingQuotes, List.mem_filterMap]
  exact exists_congr fun k => and_congr_right fun _ => waitingAt_some

/-! ### The link break (R171, R172) -/

/-- The link, the request being served and the lane queues as a link break leaves them, before the quotes it voids. -/
def linkCleared (s : State) : State :=
  ((s.withOlk { s.olk with
    shift := none, hold := none, asm := .hunt, replies := [], tx := ⟨s.olk.tx.shift, none, 0⟩, breakHeld := true }).withServing
    (s.serving.map fun v => { v with placeHeld := false })).withLqa { s.lqa with queues := Vector.replicate 9 [] }

theorem linkBreakReset_eq (s : State) :
    linkBreakReset s = (strike .none (linkCleared s)).withLqa
      { (strike .none (linkCleared s)).lqa with notes := Vector.replicate 8 .none } := by
  simp only [linkBreakReset, linkCleared, State.withOlk_serving, State.withServing_lqa, State.withOlk_lqa]

/-- Settles O14: the link's own registers, then the voids of `strike_voided`, then the notes. -/
theorem linkBreakResets : Obligations.LinkBreakResets := by
  have hhigh (s : State) (hsupply : s.supply = true) :
      exec .receiveWireReturnsHigh s = .next (s.withOlk { s.olk with breakHeld := false }) :=
    powered_on (fun s => s.withOlk { s.olk with breakHeld := false }) hsupply
  have hbreak (s : State) (hsupply : s.supply = true) : exec .linkBreak s = .next (takeBreak s) := powered_on takeBreak hsupply
  intro s hsupply
  rw [hbreak s hsupply, hhigh s hsupply]
  refine ⟨fun hheld => ?_, fun hheld hlaw => ?_, rfl⟩
  · rw [takeBreak, if_pos hheld]
  · rw [takeBreak, if_neg (Bool.eq_false_iff.mp hheld), linkBreakReset_eq]
    have hvoided := strike_voided .none (linkCleared s)
    have hwaiting {q : Quote} : q ∈ (linkCleared s).waitingQuotes ↔ ∃ k ∈ counterLanes, s.quoteAt k = some q ∧ q.state ≠ .issuing :=
      mem_waitingQuotes
    have hframe := strike_struckFrame .none (linkCleared s)
    generalize strike .none (linkCleared s) = b at *
    obtain ⟨hlanes, hpool, hslots, hrestarts, hcounts, hperiod, hthreshold, hflt, hreserved⟩ := hvoided
    refine ⟨_, rfl, hframe.olk, hframe.serving.trans ?_, fun k => ?_, fun k => ?_, ?_, ?_, fun k hk => (hlanes k hk).1, ?_, hslots, ?_,
      ?_, ?_, hperiod, hthreshold, hframe.dir, hframe.zks, hframe.tcu, hframe.ttb, hframe.clk, hframe.fmn, hframe.tamper, hframe.supply,
      hframe.startUp, hframe.pending, hframe.env⟩
    · rw [linkCleared]
      simp only [State.withLqa_serving, State.withServing_serving, Option.map_map]
      rfl
    · rw [State.queueAt, State.withLqa_lqa, hframe.lqa]
      simp only [linkCleared, State.withLqa_lqa, pick, Vector.getElem?_replicate]
      split <;> rfl
    · rw [State.noteAt, State.withLqa_lqa]
      simp only [pick, Vector.getElem?_replicate]
      split
      · rfl
      · split <;> rfl
    · rw [State.withLqa_lqa, hframe.lqa]
      rfl
    · rw [State.withLqa_lqa, hframe.lqa]
      rfl
    · exact hflt.trans (congrArg (fun n => ({ s.flt with reserved := n } : Flt)) (hreserved hlaw))
    · refine hpool.trans (List.Perm.of_eq ?_)
      rw [State.waitingQuotes, List.map_filterMap]
      rfl
    · rintro ⟨k, hk, q, hq, hwaits, htag⟩
      exact hrestarts ⟨q, hwaiting.mpr ⟨k, hk, hq, hwaits⟩, htag⟩
    · intro hno
      refine hcounts fun q hq => ?_
      obtain ⟨k, hk, hq, hwaits⟩ := hwaiting.mp hq
      exact hno k hk q hq hwaits

theorem zeroiseWrite_made {s u : State} (h : drawWrite s = (false, u)) :
    zeroiseWrite s = (true, (u.withZks { u.zks with slots := Vector.replicate 16 .erased, erasing := [] }).withFmn
      { u.fmn with zeroisePending := false, configLock := false, lockKey := 0 }) :=
  retained_made _ _ h

theorem zeroiseWrite_failed {s u : State} (h : drawWrite s = (true, u)) : zeroiseWrite s = (false, raise .storeWrite u) :=
  retained_failed _ _ h

/-- A zeroise whose write is made. -/
theorem zeroise_made {s : State} (h : s.env.storeFails.headD false = false) :
    (zeroise s).1 = true ∧ zeroised s (zeroise s).2 ∧ (zeroise s).2.tamper = s.tamper := by
  have hvoided := strike_voided .voided (s.withFmn { s.fmn with zeroisePending := true })
  have hframe := strike_struckFrame .voided (s.withFmn { s.fmn with zeroisePending := true })
  unfold zeroise
  generalize strike .voided (s.withFmn { s.fmn with zeroisePending := true }) = b at *
  have henv : b.env = s.env := hframe.env
  have hw := drawWrite_eq b
  rw [henv, h] at hw
  rw [zeroiseWrite_made hw]
  refine ⟨rfl, ⟨hvoided, ?_, ?_, hframe.dir, hframe.ttb, hframe.clk, hframe.tcu, hframe.olk, hframe.lqa, hframe.serving, hframe.supply,
    hframe.startUp, hframe.pending, ?_⟩, hframe.tamper⟩
  · simp only [State.withFmn_zks, State.withZks_zks, State.withEnv_zks, hframe.zks]
  · simp only [State.withFmn_fmn, State.withEnv_fmn, hframe.fmn]
  · rw [drawWrite_eq]
    rfl

/-- A zeroise whose write fails. -/
theorem zeroise_failed {s : State} (h : s.env.storeFails.headD false = true) :
    (zeroise s).1 = false ∧ zeroiseOwed s (zeroise s).2 ∧ (zeroise s).2.tamper = s.tamper := by
  have hvoided := strike_voided .voided (s.withFmn { s.fmn with zeroisePending := true })
  have hframe := strike_struckFrame .voided (s.withFmn { s.fmn with zeroisePending := true })
  unfold zeroise
  generalize strike .voided (s.withFmn { s.fmn with zeroisePending := true }) = b at *
  have henv : b.env = s.env := hframe.env
  have hw := drawWrite_eq b
  rw [henv, h] at hw
  rw [zeroiseWrite_failed hw]
  have hmonitor : (raise .storeWrite (b.withEnv { s.env with storeFails := s.env.storeFails.tail })).fmn =
      Fmn.arrive .storeWrite s.clk.minute { s.fmn with zeroisePending := true } := by
    simp only [raise, State.withFmn_fmn, State.withEnv_fmn, State.withEnv_clk, hframe.fmn, hframe.clk, State.withFmn_clk]
  refine ⟨rfl, ⟨hvoided, hframe.zks, fun n => ?_, hmonitor, hframe.dir, hframe.ttb, hframe.clk, hframe.tcu, hframe.olk, hframe.lqa,
    hframe.serving, hframe.supply, hframe.startUp, hframe.pending, ?_⟩, hframe.tamper⟩
  · obtain ⟨hpending, -, -⟩ := arrive_frame .storeWrite s.clk.minute { s.fmn with zeroisePending := true }
    rw [State.slotAt, hmonitor, hpending]
    rfl
  · rw [drawWrite_eq]
    rfl

/-- The tamper input's level is no part of what a zeroise does. -/
theorem zeroised_withTamper {s t : State} {b : Bool} (h : zeroised (s.withTamper b) t) : zeroised s t := by
  obtain ⟨hvoided, hkeys, hmonitor, hdir, httb, hclk, htcu, holk, hlqa, hserving, hsupply, hstart, hpending, henv⟩ := h
  rw [drawWrite_eq] at henv
  refine ⟨hvoided, hkeys, hmonitor, hdir, httb, hclk, htcu, holk, hlqa, hserving, hsupply, hstart, hpending, ?_⟩
  rw [drawWrite_eq]
  exact henv

theorem zeroiseOwed_withTamper {s t : State} {b : Bool} (h : zeroiseOwed (s.withTamper b) t) : zeroiseOwed s t := by
  obtain ⟨hvoided, hkeys, hslots, hmonitor, hdir, httb, hclk, htcu, holk, hlqa, hserving, hsupply, hstart, hpending, henv⟩ := h
  rw [drawWrite_eq] at henv
  refine ⟨hvoided, hkeys, hslots, hmonitor, hdir, httb, hclk, htcu, holk, hlqa, hserving, hsupply, hstart, hpending, ?_⟩
  rw [drawWrite_eq]
  exact henv

theorem zeroiseKeeps_startUp {s t : State} (h : zeroiseKeeps s t) : t.startUp = s.startUp := by
  obtain ⟨-, -, -, -, -, -, -, -, hstart, -, -⟩ := h
  exact hstart

theorem resumeStartUp_done {s : State} (h : s.startUp = .done) : resumeStartUp s = s := by
  simp only [resumeStartUp, h, ite_self]

theorem exec_tamperZeroise_eq (s : State) :
    exec .tamperZeroise s = .next (if s.supply then resumeStartUp (assertTamper s) else assertTamper s) := rfl

/-- The tamper input asserted on a part that runs. -/
theorem exec_tamperZeroise_asserted {s : State} (hsupply : s.supply = true) (htamper : s.tamper = false)
    (hstart : (zeroise (s.withTamper true)).2.startUp = .done) :
    exec .tamperZeroise s = .next (zeroise (s.withTamper true)).2 := by
  have hassert : assertTamper s = (zeroise (s.withTamper true)).2 := by
    simp only [assertTamper, htamper, State.withTamper_supply, hsupply, if_true, Bool.false_eq_true, if_false]
  rw [exec_tamperZeroise_eq, if_pos hsupply, hassert, resumeStartUp_done hstart]

/-- Without supply the input's level is only noted. -/
theorem assertTamper_off {s : State} (h : s.supply = false) : assertTamper s = s.withTamper true := by
  unfold assertTamper
  split
  · rename_i htamper
    rw [← htamper, State.withTamper_self]
  · exact if_neg (by rw [State.withTamper_supply, h]; decide)

theorem exec_zeroiseRetry_eq {s : State} (hsupply : s.supply = true) (hpending : s.fmn.zeroisePending = true) :
    exec .zeroiseRetry s = .next (resumeStartUp (zeroiseWrite s).2) := by
  have hexec : exec .zeroiseRetry s = powered s fun s => if s.fmn.zeroisePending then resumeStartUp (zeroiseWrite s).2 else s := rfl
  rw [hexec, powered_on _ hsupply, if_pos hpending]

/-- Settles O52: each of the three causes comes to the write of `zeroise_made` or `zeroise_failed`. -/
theorem zeroiseErases : Obligations.ZeroiseErases := by
  refine ⟨fun lane tag s g ht => ?_, fun s => ⟨fun hsupply htamper hstart hw => ?_, fun hsupply htamper hstart hw => ?_,
    fun htamper hstart => ?_, fun hsupply => ?_, rfl, fun hsupply hpending hstart u => ⟨fun hw => ?_, fun hw => ?_⟩⟩⟩
  · have hexec := serve_answered (body := zeroiseBody) ht rfl
    refine ⟨(zeroise g).2, hexec.trans ?_, fun hw => ?_, fun hw => ?_, ?_⟩
    · cases hw : g.env.storeFails.headD false with
      | false => rw [(zeroise_made hw).1]; rfl
      | true => rw [(zeroise_failed hw).1]; rfl
    · exact (zeroise_made hw).2.1
    · exact (zeroise_failed hw).2.1
    · cases hw : g.env.storeFails.headD false with
      | false => exact (zeroise_made hw).2.2
      | true => exact (zeroise_failed hw).2.2
  · obtain ⟨-, hmade, hinput⟩ := zeroise_made (s := s.withTamper true) hw
    have hkeeps := zeroiseKeeps_startUp hmade.2.2.2
    exact ⟨_, exec_tamperZeroise_asserted hsupply htamper (hkeeps.trans hstart), hinput, zeroised_withTamper hmade⟩
  · obtain ⟨-, howed, hinput⟩ := zeroise_failed (s := s.withTamper true) hw
    have hkeeps := zeroiseKeeps_startUp howed.2.2.2.2
    exact ⟨_, exec_tamperZeroise_asserted hsupply htamper (hkeeps.trans hstart), hinput, zeroiseOwed_withTamper howed⟩
  · have hassert : assertTamper s = s := if_pos htamper
    rw [exec_tamperZeroise_eq, hassert, resumeStartUp_done hstart, ite_self]
  · rw [exec_tamperZeroise_eq, if_neg (by rw [hsupply]; decide), assertTamper_off hsupply]
  · have hstart' : u.startUp = .done := by rw [drawWrite_frame hw]; exact hstart
    rw [exec_zeroiseRetry_eq hsupply hpending, zeroiseWrite_made hw]
    exact congrArg _ (resumeStartUp_done hstart')
  · have hstart' : u.startUp = .done := by rw [drawWrite_frame hw]; exact hstart
    rw [exec_zeroiseRetry_eq hsupply hpending, zeroiseWrite_failed hw]
    exact congrArg _ (resumeStartUp_done hstart')

end Sys2Proof.Machine.VoidedQuotes

/-! ## The state after reset: O56 and O57 -/

namespace Sys2Proof.Machine.AfterReset

open Sys2Proof Sys2Proof.Machine

/-- The low three bits of the shift register, where the review counter starts (R94). -/
theorem reset_review : ∃ v, v ≤ 7 ∧ State.reset.qtb.review = .counting v :=
  ⟨_, Nat.le_of_lt_succ (Nat.mod_lt _ (by decide)), rfl⟩

/-- Settles O56: each block's factory value, the tables entry by entry. -/
theorem resetValues : Obligations.ResetValues := by
  unfold Obligations.ResetValues
  have hqueues : ∀ k ∈ List.range 9, State.reset.queueAt k = [] := by decide
  have hlanes : ∀ k ∈ counterLanes, State.reset.levelAt k = 3 ∧ State.reset.noteAt k = .none := by decide
  have hpointers : ∀ v ∈ [1, 2, 3, 4, 5, 6], State.reset.pointerAt v = 8 := by decide
  have hquotes : ∀ k ∈ counterLanes, State.reset.quoteAt k = none := by decide
  have hkeys : ∀ k ∈ List.range 16, State.reset.zoneAt k = ⟨.unused, 0, 0, 0, none, none⟩ ∧ State.reset.slotAt k = .empty := by decide
  exact ⟨rfl, rfl, rfl, rfl, rfl, rfl, rfl, hqueues, hlanes, hpointers, hquotes, reset_review, rfl, rfl, rfl, rfl, hkeys, rfl, rfl, rfl,
    rfl, rfl, rfl⟩

theorem reset_steady : State.reset.steady := by
  have hsettled : State.reset.settled := ⟨rfl, by decide⟩
  have hmonitor : State.reset.fmn.bounded := by decide
  have hqueues : State.reset.queuesBounded := by decide
  have hlanes : State.reset.lqa.bounded := by decide
  exact ⟨hsettled, hmonitor, hqueues, hlanes, Nat.zero_le _, rfl⟩

theorem reset_floatLaw : State.reset.floatLaw := ⟨by decide, by decide, by decide⟩

/-- Settles O57: the factory tables are empty, so each invariant is a fact about empty tables. -/
theorem resetMeetsInvariants : Obligations.ResetMeetsInvariants :=
  ⟨reset_steady, reset_floatLaw, ⟨List.Pairwise.nil, rfl, Nat.zero_le _⟩, by decide⟩

end Sys2Proof.Machine.AfterReset

/-! ## What a void releases, and the issues that fail: O33 -/

namespace Sys2Proof.Machine.FailedIssue

open Sys2Proof Sys2Proof.Machine Sys2Proof.Machine.Quotes Sys2Proof.Machine.VendingFloat Sys2Proof.Machine.VoidedQuotes

/-! ### Why a token set fails (R36, R43) -/

/-- Work under the cipher that ends without a result names an unavailable key or a failed cipher. -/
def FailsByCipher {α : Type} (r : Res α) : Prop := ∀ a t, r = .no a t → a.status = .keyUnavailable ∨ a = Answer.bare .cipherFault

theorem failsByCipher_ok {α : Type} (x : α) (s : State) : FailsByCipher (.ok x s) := by
  intro a t h
  cases h

theorem failsByCipher_noKey {α : Type} (why : KeyReason) (slot : Nat) (s : State) :
    FailsByCipher (.no (Answer.keyUnavailable why slot) s : Res α) := by
  intro a t h
  cases h
  exact .inl rfl

theorem failsByCipher_noCipher {α : Type} (s : State) : FailsByCipher (.no (Answer.bare .cipherFault) s : Res α) := by
  intro a t h
  cases h
  exact .inr rfl

theorem failsByCipher_andThen {α β : Type} {r : Res α} {f : α → State → Res β} (hr : FailsByCipher r)
    (hf : ∀ x t, FailsByCipher (f x t)) : FailsByCipher (r.andThen f) := by
  cases r with
  | ok x t => exact hf x t
  | no e t =>
    intro a u h
    cases h
    exact hr e t rfl

theorem countUse_fails (s : State) : FailsByCipher (countUse s) := by
  unfold countUse
  split
  · exact failsByCipher_noCipher s
  · split
    · exact failsByCipher_ok _ _
    · split
      · exact failsByCipher_ok _ _
      · exact failsByCipher_noCipher _

theorem slotUse_fails (slot : Nat) (s : State) : FailsByCipher (slotUse slot s) := by
  unfold slotUse
  dsimp only
  split
  · exact failsByCipher_andThen (countUse_fails _) fun _ t => failsByCipher_ok _ t
  · exact failsByCipher_noKey _ _ _

theorem checkSlot_fails (slot : Nat) (s : State) : FailsByCipher (checkSlot slot s) := by
  refine failsByCipher_andThen (slotUse_fails slot s) fun kc t => ?_
  split
  · exact failsByCipher_ok _ t
  · exact failsByCipher_noKey _ _ _

theorem deriveKey_fails (zone meter : Nat) (k : KeyRef) (s : State) : FailsByCipher (deriveKey zone meter k s) :=
  failsByCipher_andThen
    (failsByCipher_andThen (checkSlot_fails k.slot s) fun _ t =>
      failsByCipher_andThen (slotUse_fails k.slot t) fun _ u => failsByCipher_ok _ u)
    fun _ t => failsByCipher_ok _ t

theorem encipherParts_fails (parts : List (Block × TokenClass × Nat)) (tid : Nat) (s : State) :
    FailsByCipher (encipherParts tid parts s) := by
  induction parts generalizing tid s with
  | nil => exact failsByCipher_ok _ s
  | cons part rest ih =>
    exact failsByCipher_andThen (countUse_fails (midEvent s)) fun _ t =>
      failsByCipher_andThen (ih (tid + 1) t) fun _ u => failsByCipher_ok _ u

theorem formSet_fails (zone meter : Nat) (key : KeyRef) (change : Option KeyRef) (tid : Nat) (set : TokenSet) (s : State) :
    FailsByCipher (formSet zone meter key change tid set s) := by
  refine failsByCipher_andThen (deriveKey_fails zone meter key s) fun toKey t => ?_
  cases change with
  | none => exact encipherParts_fails _ _ t
  | some k => exact failsByCipher_andThen (deriveKey_fails zone meter k t) fun _ u => encipherParts_fails _ _ u

/-! ### A void, field by field (R76, R94) -/

theorem voidQuote_released {lane : Nat} {s : State} {q : Quote} (hq : s.quoteAt lane = some q) :
    ∃ review reads, (q.review = false → review = s.qtb.review ∧ reads = s.freeReads) ∧
      (q.review = true → ∃ v, v ≤ 7 ∧ review = .counting v) ∧
      voidQuote lane s = (((s.withQtb { s.qtb with quotes := put s.qtb.quotes (lane - 1) none, review := review }).withAst
        { s.ast with free := q.shadow :: s.ast.free }).withFlt { s.flt with reserved := s.flt.reserved - q.accepted }).withFreeReads
          reads := by
  obtain ⟨h0, -⟩ := quoteAt_some_lane hq
  cases htag : q.review with
  | false =>
    refine ⟨s.qtb.review, s.freeReads, fun _ => ⟨rfl, rfl⟩, fun h => Bool.noConfusion h, ?_⟩
    simp only [voidQuote, hq, releaseReview_untagged _ htag, setQuote_counter h0]
    rfl
  | true =>
    refine ⟨.counting ((Config.lfsr s.freeReads).toNat % 8), s.freeReads + 1, fun h => Bool.noConfusion h,
      fun _ => ⟨_, Nat.le_of_lt_succ (Nat.mod_lt _ (by decide)), rfl⟩, ?_⟩
    simp only [voidQuote, hq, releaseReview, htag, if_true, setQuote_counter h0]
    rfl

/-! ### Issues that fail (R80, R81) -/

theorem issueBody_failed {lane : Nat} {s : State} {q : Quote} (h : s.quoteAt lane = some q) (hq : q.state = .opened)
    (hfailed : s.tcu.passed = false) : issueBody lane s = refuse .cipherFault s := by
  simp only [issueBody, h, hq, hfailed, Bool.not_false, if_true]

/-- An issue whose identifiers the clock's end cuts off. -/
theorem proceedIssue_late {lane : Nat} {q : Quote} {g i : State} (hi : i = setQuote lane (some { q with state := .issuing }) g)
    (hlate : i.clk.minute = Config.lastMinute ∨ Config.lastMinute < firstTid i.clk.minute (i.record q.shadow).lastTid + q.count - 1) :
    proceedIssue lane q g = answered (Answer.bare .clockEnd) (voidQuote lane i) := by
  subst hi
  simp only [proceedIssue, if_pos hlate]
  rfl

/-- An issue whose token set fails. -/
theorem proceedIssue_unformed {lane first : Nat} {q : Quote} {g i t : State} {a : Answer}
    (hi : i = setQuote lane (some { q with state := .issuing }) g) (hfirst : first = firstTid i.clk.minute (i.record q.shadow).lastTid)
    (hminute : i.clk.minute ≠ 16777215) (hlast : first + q.count - 1 ≤ 16777215)
    (hform : formSet (i.record q.shadow).zone q.meter q.key q.change first q.tokenSet i = .no a t) :
    proceedIssue lane q g = answered a (voidQuote lane t) := by
  subst hi hfirst
  have hfits : ¬ ((setQuote lane (some { q with state := .issuing }) g).clk.minute = Config.lastMinute ∨
      Config.lastMinute < firstTid _ _ + q.count - 1) := not_or.2 ⟨hminute, Nat.not_lt.2 hlast⟩
  simp only [proceedIssue, if_neg hfits, hform]
  rfl

theorem commitIssue_unwritten {lane tid : Nat} {q : Quote} {tokens : List Block} {s u : State} (hu : drawWrite s = (true, u)) :
    commitIssue lane q tid tokens s = answered (Answer.bare .storeFault) (voidQuote lane (raise .storeWrite u)) :=
  retained_failed _ _ hu

theorem commitIssue_uncommitted {lane tid : Nat} {q : Quote} {tokens : List Block} {s u v : State} (hu : drawWrite s = (false, u))
    (hv : drawWrite (writeSlot q.shadow (q.complete tid (u.record q.shadow)).sealed u) = (true, v)) :
    commitIssue lane q tid tokens s = answered (Answer.bare .storeFault) (voidQuote lane (raise .storeWrite v)) := by
  rw [commitIssue, retained_made _ _ hu]
  exact retained_failed _ _ hv

/-! ### A quote written after a void (R76) -/

theorem placeQuote_quoteAt {lane : Nat} {q : Quote} {s : State} (h0 : lane ≠ 0) (h8 : lane ≤ 8) :
    (placeQuote lane q s).quoteAt lane = some q := by
  have hset := quoteAt_setQuote_same (some q) (s.withFlt { s.flt with reserved := s.flt.reserved + q.accepted }) h0 h8
  unfold placeQuote
  dsimp only
  split
  · exact hset
  · exact hset

/-- Settles O33: the void by `voidQuote_released`, the failing issues by the branch that fails, the late quote by `openQuote_struck`. -/
theorem voidsRelease : Obligations.VoidsRelease := by
  refine ⟨fun lane s q _ hq => voidQuote_released hq, fun lane tag first s g i q ht hq hopen hfirst hi => ?_,
    fun lane s q v hlane hserving hwaits => ⟨fun hcause => ?_, fun note hcause => ?_⟩, fun note s v hserving => ⟨?_, fun k hk => ?_⟩⟩
  · have hkeeps : i = g.withQtb i.qtb := by
      rw [hi, setQuote_counter (quoteAt_some_lane hq).1]
      rfl
    have hclk : i.clk = g.clk := by
      rw [hkeeps]
      rfl
    have hrecord : i.record q.shadow = g.record q.shadow := by
      rw [hkeeps]
      rfl
    have hfirst' : first = firstTid i.clk.minute (i.record q.shadow).lastTid := by
      rw [hfirst, hclk, hrecord, firstTid_eq]
    refine ⟨fun hfailed => exec_issue_answered ht (issueBody_failed hq hopen hfailed), fun hpassed => ?_⟩
    have hbody := issueBody_opened hq hopen hpassed
    refine ⟨fun hlate => exec_issue_answered ht (hbody.trans (proceedIssue_late hi ?_)), fun hminute hlast => ⟨fun tokens t u hform => ?_,
      fun a t hform => ?_⟩⟩
    · rw [← hfirst', hclk]
      exact hlate
    · rw [← hrecord] at hform
      have hformed := hbody.trans (proceedIssue_formed hi hfirst' (hclk ▸ hminute) hlast hform)
      exact ⟨fun hu => exec_issue_answered ht (hformed.trans (commitIssue_unwritten hu)),
        fun v hu hv => exec_issue_answered ht (hformed.trans (commitIssue_uncommitted hu hv))⟩
    · rw [← hrecord] at hform
      exact ⟨exec_issue_answered ht (hbody.trans (proceedIssue_unformed hi hfirst' (hclk ▸ hminute) hlast hform)),
        formSet_fails _ _ _ _ _ _ _ _ _ hform⟩
  · exact openQuote_stands (by rw [hserving]; exact hcause)
  · have hcause' : s.serving.bind (·.cause) = some note := by rw [hserving]; exact hcause
    obtain ⟨h0, h8⟩ := mem_counterLanes.mp hlane
    rw [openQuote_struck hcause']
    exact voidWaiting_waiting (placeQuote_quoteAt h0 h8) hwaits
  · rw [strike_serving, hserving]
    rfl
  · obtain ⟨hlanes, -⟩ := strike_voided note s
    exact (hlanes k hk).1

end Sys2Proof.Machine.FailedIssue

/-! ## The record requests: O15 to O21 -/

namespace Sys2Proof.Machine.RecordRequests

open Sys2Proof Sys2Proof.Machine Sys2Proof.Machine.KeysAndLock Sys2Proof.Machine.LanesAndArbiter Sys2Proof.Machine.VendingFloat
  Sys2Proof.Machine.Quotes

/-! ### What a request finds of a meter (R6, R10) -/

theorem findRecord_missing {meter : Nat} {s : State} (h : s.dir.lookup meter = none) : findRecord meter s = .missing := by
  simp only [findRecord, h]

theorem findRecord_quarantined {meter : Nat} {s : State} {e : Entry} (h : s.dir.lookup meter = some e) (hq : e.quarantined = true) :
    findRecord meter s = .bad e s := by
  simp only [findRecord, h, hq, if_true]

theorem findRecord_unsound {meter : Nat} {s : State} {e : Entry} (h : s.dir.lookup meter = some e) (hq : e.quarantined = false)
    (hr : (s.record e.slot).intact = false) : findRecord meter s = .bad e (quarantine meter s) := by
  simp only [findRecord, h, hq, hr, Bool.false_eq_true, if_false]

theorem findRecord_good {meter : Nat} {s : State} {e : Entry} (h : s.dir.lookup meter = some e) (hq : e.quarantined = false)
    (hr : (s.record e.slot).intact = true) : findRecord meter s = .good e (s.record e.slot) := by
  simp only [findRecord, h, hq, hr, Bool.false_eq_true, if_false, if_true]

/-! ### A version written and swapped in (R3) -/

/-- The version's write fails: the slot taken is back in the pool. -/
theorem writeVersion_unwritten {r : Record} {s u : State} (next : Nat → State → Served) (hfree : s.ast.free ≠ [])
    (hw : drawWrite s = (true, u)) : writeVersion r s next = refuse .storeFault (raise .storeWrite u) := by
  obtain ⟨slot, rest, hpool⟩ := List.exists_cons_of_ne_nil hfree
  have htake : takeSlot s = some (slot, s.withAst { s.ast with free := rest }) := by simp only [takeSlot, hpool]
  have hwrite : drawWrite (s.withAst { s.ast with free := rest }) = (true, u.withAst { s.ast with free := rest }) := by
    rw [drawWrite_eq] at hw ⊢
    obtain ⟨hfails, rfl⟩ := Prod.mk.inj hw
    exact Prod.ext hfails rfl
  have hast : u.ast = s.ast := by
    rw [drawWrite_frame hw]
    rfl
  simp only [writeVersion, htake]
  rw [retained_failed _ _ hwrite, freeSlot, raise, raise]
  have hpool' : ({ s.ast with free := slot :: rest } : Ast) = u.ast := by rw [hast, ← hpool]
  refine congrArg (refuse .storeFault) ?_
  calc (u.withFmn (u.fmn.arrive .storeWrite u.clk.minute)).withAst { s.ast with free := slot :: rest }
      = (u.withFmn (u.fmn.arrive .storeWrite u.clk.minute)).withAst u.ast := by rw [hpool']
    _ = u.withFmn (u.fmn.arrive .storeWrite u.clk.minute) := State.withAst_self _

theorem writeVersion_written {r : Record} {s t u : State} {slot : Nat} (next : Nat → State → Served)
    (htake : takeSlot s = some (slot, t)) (hw : drawWrite t = (false, u)) :
    writeVersion r s next = next slot (writeSlot slot r.sealed u) := by
  simp only [writeVersion, htake]
  exact retained_made _ _ hw

theorem replaceRecord_unwritten {e : Entry} {r : Record} {flag : Option Bool} {s u : State} (next : State → Served)
    (hfree : s.ast.free ≠ []) (hw : drawWrite s = (true, u)) :
    replaceRecord e r flag s next = refuse .storeFault (raise .storeWrite u) :=
  writeVersion_unwritten _ hfree hw

theorem replaceRecord_unswapped {e : Entry} {r : Record} {flag : Option Bool} {s t u v : State} {slot : Nat} (next : State → Served)
    (htake : takeSlot s = some (slot, t)) (hu : drawWrite t = (false, u)) (hv : drawWrite (writeSlot slot r.sealed u) = (true, v)) :
    replaceRecord e r flag s next = refuse .storeFault (freeSlot slot (raise .storeWrite v)) := by
  rw [replaceRecord, writeVersion_written _ htake hu]
  exact retained_failed _ _ hv

theorem replaceRecord_swapped {e : Entry} {r : Record} {s t u v : State} {slot : Nat} (next : State → Served)
    (htake : takeSlot s = some (slot, t)) (hu : drawWrite t = (false, u)) (hv : drawWrite (writeSlot slot r.sealed u) = (false, v)) :
    replaceRecord e r none s next = next (freeSlot e.slot (v.withDir (v.dir.swap e.meter slot))) := by
  rw [replaceRecord, writeVersion_written _ htake hu]
  exact retained_made _ _ hv

theorem replaceRecord_marked {e : Entry} {r : Record} {flag : Bool} {s t u v : State} {slot : Nat} (next : State → Served)
    (htake : takeSlot s = some (slot, t)) (hu : drawWrite t = (false, u)) (hv : drawWrite (writeSlot slot r.sealed u) = (false, v)) :
    replaceRecord e r (some flag) s next = next (freeSlot e.slot (v.withDir ((v.dir.swap e.meter slot).mark e.meter flag))) := by
  rw [replaceRecord, writeVersion_written _ htake hu]
  exact retained_made _ _ hv

/-- A version's two writes leave the quote table. -/
theorem swapped_qtb {t u v g : State} {slot : Nat} {r : Record} (htake : takeSlot g = some (slot, t)) (hu : drawWrite t = (false, u))
    (hv : drawWrite (writeSlot slot r u) = (false, v)) : v.qtb = g.qtb := by
  obtain ⟨rest, -, rfl⟩ := takeSlot_some htake
  rw [drawWrite_frame hv, State.withEnv_qtb, writeSlot, State.withAst_qtb, drawWrite_frame hu]
  rfl

theorem quoteAt_of_qtb {s t : State} (h : t.qtb = s.qtb) (lane : Nat) : t.quoteAt lane = s.quoteAt lane := by
  rw [State.quoteAt, h, State.quoteAt]

theorem quoteLane_of_qtb {s t : State} (h : t.qtb = s.qtb) (meter : Nat) : t.quoteLane meter = s.quoteLane meter := by
  simp only [State.quoteLane, quoteAt_of_qtb h]

/-! ### LIST (R25) -/

/-- Settles O16. -/
theorem listReports : Obligations.ListReports := by
  intro lane tag start s g ht found hfound
  refine serve_answered (body := listBody start) ht ?_
  subst hfound
  simp only [listBody, List.length_take, bit_decide]
  rfl

/-! ### SUSPEND and RESUME (R22, R23) -/

theorem exec_suspend_answered {lane tag meter : Nat} {s g t : State} {a : Answer} (h : taken (.suspend lane tag meter) s = some g)
    (hb : suspendBody meter g = answered a t) : exec (.suspend lane tag meter) s = .next (finish a t) :=
  serve_answered h hb

theorem exec_resume_answered {lane tag meter : Nat} {s g t : State} {a : Answer} (h : taken (.resume lane tag meter) s = some g)
    (hb : resumeBody meter g = answered a t) : exec (.resume lane tag meter) s = .next (finish a t) :=
  serve_answered h hb

/-- Settles O21. -/
theorem resumeWritesVersion : Obligations.ResumeWritesVersion := by
  intro lane tag meter slot s g t u v ht
  refine ⟨fun hno => exec_resume_answered ht ?_, fun e r new he hr hnew => ⟨fun hmark => exec_resume_answered ht ?_,
    fun hmark hbad => exec_resume_answered ht ?_, fun hmark hgood => ?_⟩⟩
  · simp only [resumeBody, findRecord_missing hno]
    rfl
  · simp only [resumeBody, findRecord_quarantined he hmark]
    rfl
  · simp only [resumeBody, findRecord_unsound he hmark (hr ▸ hbad)]
    rfl
  · have hfind := findRecord_good he hmark (by rw [hr]; exact hgood)
    rw [hr] at hfind
    refine ⟨fun hactive => exec_resume_answered ht ?_, fun hsuspended => ?_⟩
    · simp only [resumeBody, hfind, hactive, if_true]
    · have hbody : resumeBody meter g = replaceRecord e { r.rolled g.clk.month with state := .active } none g fun t =>
          answered (Answer.ok []) t := by
        simp only [resumeBody, hfind, hsuspended, reduceCtorEq, if_false]
      subst hnew
      refine ⟨fun hfree hw => exec_resume_answered ht (hbody.trans (replaceRecord_unwritten _ hfree hw)), fun htake hu =>
        ⟨fun hv => exec_resume_answered ht (hbody.trans (replaceRecord_unswapped _ htake hu hv)),
          fun hv => exec_resume_answered ht (hbody.trans (replaceRecord_swapped _ htake hu hv))⟩⟩

/-! #### The quote a SUSPEND voids (R22, R86) -/

theorem suspendQuote_none {meter : Nat} {s : State} (h : s.quoteLane meter = none) : suspendQuote meter s = (0, s) := by
  simp only [suspendQuote, h]

theorem suspendQuote_waiting {meter k : Nat} {s : State} {q : Quote} (h : s.quoteLane meter = some k) (hq : s.quoteAt k = some q)
    (hwaits : q.state ≠ .issuing) : suspendQuote meter s = (k, setNote k .voided (voidQuote k s)) := by
  simp only [suspendQuote, h, hq, Option.any_some, decide_eq_true hwaits, if_true, voidWaiting_waiting hq hwaits]

/-- The lane byte of a meter without a quote (R175). -/
theorem beBytes_lane_none : beBytes 1 0 = [0] := by decide

/-- Settles O20. -/
theorem suspendWritesVersion : Obligations.SuspendWritesVersion := by
  intro lane tag meter slot s g t u v ht
  refine ⟨fun hno => exec_suspend_answered ht ?_, fun e r new he hr hnew => ⟨fun hmark => exec_suspend_answered ht ?_,
    fun hmark hbad => exec_suspend_answered ht ?_, fun hmark hgood => ?_⟩⟩
  · simp only [suspendBody, findRecord_missing hno]
    rfl
  · simp only [suspendBody, findRecord_quarantined he hmark]
    rfl
  · simp only [suspendBody, findRecord_unsound he hmark (hr ▸ hbad)]
    rfl
  · have hfind := findRecord_good he hmark (by rw [hr]; exact hgood)
    rw [hr] at hfind
    refine ⟨fun hsuspended => exec_suspend_answered ht ?_, fun hactive => ?_⟩
    · simp only [suspendBody, hfind, hsuspended, if_true]
    · have hbody : suspendBody meter g = replaceRecord e { r.rolled g.clk.month with state := .suspended } none g fun t =>
          answered (Answer.ok (beBytes 1 (suspendQuote meter t).1)) (suspendQuote meter t).2 := by
        simp only [suspendBody, hfind, hactive, reduceCtorEq, if_false]
      subst hnew
      refine ⟨fun hfree hw => exec_suspend_answered ht (hbody.trans (replaceRecord_unwritten _ hfree hw)), fun htake hu =>
        ⟨fun hv => exec_suspend_answered ht (hbody.trans (replaceRecord_unswapped _ htake hu hv)), fun hv => ?_⟩⟩
      have hswapped := hbody.trans (replaceRecord_swapped _ htake hu hv)
      have hkeeps : v.qtb = g.qtb := swapped_qtb htake hu hv
      have hqtb : (freeSlot e.slot (v.withDir (v.dir.swap e.meter slot))).qtb = g.qtb := hkeeps
      have hlane := quoteLane_of_qtb hqtb meter
      refine ⟨fun hnone => exec_suspend_answered ht (hswapped.trans ?_), fun k q hk hq hwaits =>
        exec_suspend_answered ht (hswapped.trans ?_)⟩
      · rw [suspendQuote_none (hlane.trans hnone), beBytes_lane_none]
      · rw [suspendQuote_waiting (hlane.trans hk) ((quoteAt_of_qtb hqtb k).trans hq) hwaits]

/-! ### AMEND (R21) -/

theorem exec_amend_answered {lane tag meter : Nat} {f : AmendFields} {s g t : State} {a : Answer}
    (h : taken (.amend lane tag meter f) s = some g) (hb : amendBody meter f g = answered a t) :
    exec (.amend lane tag meter f) s = .next (finish a t) :=
  serve_answered h hb

/-- A record as the present month reads it (R4). -/
theorem rolled_eq (r : Record) (month : Nat) : r.rolled month = { r with
    stamp := max r.stamp month
    units := if r.stamp < month then 0 else r.units
    fixed := r.fixed && decide (month ≤ r.stamp)
    taken := r.taken && decide (month ≤ r.stamp) } := by
  unfold Record.rolled
  split
  · rename_i hold
    simp only [Nat.max_eq_right (Nat.le_of_lt hold), decide_eq_false (Nat.not_le.mpr hold), Bool.and_false]
  · rename_i hnow
    simp only [Nat.max_eq_left (Nat.not_lt.mp hnow), decide_eq_true (Nat.not_lt.mp hnow), Bool.and_true]

theorem amendValid_false {f : AmendFields} : amendValid f = false ↔
    flag f.present 0 = true ∧ 15 < f.plan ∨ flag f.present 2 = true ∧ 50 < f.rate ∨ flag f.present 3 = true ∧ 1 < f.eligible ∨
      flag f.present 4 = true ∧ 15 < f.revision := by
  simp only [amendValid, yesNo, Bool.not_eq_false', Bool.or_eq_true, Bool.and_eq_true, decide_eq_true_eq, Bool.not_eq_true',
    decide_eq_false_iff_not, Nat.not_le, or_assoc]

theorem amendedArrears_eq (old : Nat) (change sum : Int) (hsum : sum = (old : Int) + change) :
    amendedArrears old change = if sum < 0 then 0 else if 10000000 < sum then 10000000 else sum.toNat := by
  have hcents : Config.maxCents = 10000000 := rfl
  rw [amendedArrears, hcents, ← hsum]
  split
  · omega
  · split <;> omega

/-- The record that AMEND writes, its fields as R21 names them. -/
theorem amendApply_eq (f : AmendFields) (r : Record) (month : Nat) (sum : Int)
    (hsum : sum = (r.arrears : Int) + (if flag f.present 1 then signed32 f.arrears else 0)) :
    amendApply f (r.rolled month) = {
      r.rolled month with
      plan := if flag f.present 0 then f.plan else r.plan
      arrears := if flag f.present 1 then (if sum < 0 then 0 else if 10000000 < sum then 10000000 else sum.toNat) else r.arrears
      rate := if flag f.present 2 then f.rate else r.rate
      eligible := if flag f.present 3 then decide (f.eligible = 1) else r.eligible
      revision := if flag f.present 4 then f.revision else r.revision } := by
  rw [rolled_eq, amendApply, amendedArrears_eq r.arrears (amendChange f) sum hsum]

theorem arrearsClamped_eq (present : Bool) (old : Nat) (change sum : Int) (hsum : sum = (old : Int) + change) :
    bit (present && arrearsClamped old change) = if present = true ∧ (sum < 0 ∨ 10000000 < sum) then 1 else 0 := by
  subst hsum
  rw [← bit_decide, Bool.decide_and, Bool.decide_eq_true]
  rfl

/-- Settles O18. -/
theorem amendWritesVersion : Obligations.AmendWritesVersion := by
  intro lane tag meter slot f s g t u v ht
  refine ⟨fun hno => exec_amend_answered ht ?_, fun e r he hr => ⟨fun hmark => exec_amend_answered ht ?_,
    fun hmark hbad => exec_amend_answered ht ?_, fun hmark hgood => ?_⟩⟩
  · simp only [amendBody, findRecord_missing hno]
    rfl
  · simp only [amendBody, findRecord_quarantined he hmark]
    rfl
  · simp only [amendBody, findRecord_unsound he hmark (hr ▸ hbad)]
    rfl
  · have hfind := findRecord_good he hmark (by rw [hr]; exact hgood)
    rw [hr] at hfind
    refine ⟨fun hbusy => exec_amend_answered ht ?_, fun bad sum new hidle hbad hsum hnew => ?_⟩
    · simp only [amendBody, hfind, Option.isSome_iff_ne_none.mpr hbusy, if_true]
      rfl
    rw [← amendValid_false] at hbad
    have hquote : ¬ (g.quoteLane meter).isSome = true := by simp [hidle]
    refine ⟨fun hout => exec_amend_answered ht ?_, fun hin hplan hnone => exec_amend_answered ht ?_, fun hin hplan => ?_⟩
    · simp only [amendBody, hfind, if_neg hquote, hbad.mp hout, Bool.not_false, if_true]
      rfl
    · have hvalid : amendValid f = true := Bool.of_not_eq_false fun h => hin (hbad.mpr h)
      simp only [amendBody, hfind, if_neg hquote, hvalid, hplan, hnone, Bool.not_true, Bool.false_eq_true, if_false, Option.isNone_none,
        and_self, if_true]
      rfl
    · have hvalid : amendValid f = true := Bool.of_not_eq_false fun h => hin (hbad.mpr h)
      have hplanned : ¬ (flag f.present 0 = true ∧ (g.planAt f.plan).isNone = true) := fun h =>
        hplan h.1 (Option.isNone_iff_eq_none.mp h.2)
      have hversion : amendApply f (r.rolled g.clk.month) = new := (amendApply_eq f r g.clk.month sum hsum).trans hnew.symm
      have hbody : amendBody meter f g = replaceRecord e new none g fun t => answered
          (Answer.ok (fieldBytes [(4, new.arrears), (1, bit (flag f.present 1 && arrearsClamped r.arrears (amendChange f)))])) t := by
        simp only [amendBody, hfind, if_neg hquote, hvalid, Bool.not_true, Bool.false_eq_true, if_false, if_neg hplanned, hversion]
      rw [arrearsClamped_eq _ _ (amendChange f) sum hsum] at hbody
      exact ⟨fun hfree hw => exec_amend_answered ht (hbody.trans (replaceRecord_unwritten _ hfree hw)), fun htake hu =>
        ⟨fun hv => exec_amend_answered ht (hbody.trans (replaceRecord_unswapped _ htake hu hv)),
          fun hv => exec_amend_answered ht (hbody.trans (replaceRecord_swapped _ htake hu hv))⟩⟩

end Sys2Proof.Machine.RecordRequests

namespace Sys2Proof.Machine.RecordRequests

open Sys2Proof Sys2Proof.Machine Sys2Proof.Machine.KeysAndLock Sys2Proof.Machine.LanesAndArbiter Sys2Proof.Machine.VendingFloat
  Sys2Proof.Machine.Quotes

/-! ### RESTORE (R19, R20) -/

theorem exec_restore_answered {lane tag meter : Nat} {f : RestoreFields} {s g t : State} {a : Answer}
    (h : taken (.restore lane tag meter f) s = some g) (hb : restoreBody meter f g = answered a t) :
    exec (.restore lane tag meter f) s = .next (finish a t) :=
  serve_answered h hb

theorem ofCode_isSome (n : Nat) : (RecordState.ofCode n).isSome = decide (n ≤ 1) := by
  unfold RecordState.ofCode
  split
  · rfl
  · rfl
  · rename_i h0 h1
    have hne0 : n ≠ 0 := h0
    have hne1 : n ≠ 1 := h1
    exact (decide_eq_false (by omega)).symm

theorem ofCode_getD {n : Nat} (h : n ≤ 1) : (RecordState.ofCode n).getD .active = if n = 0 then .active else .suspended := by
  obtain rfl | rfl : n = 0 ∨ n = 1 := by omega
  · rfl
  · rfl

/-- A RESTORE out of range: R19's ranges with the last issue's own. -/
theorem restoreValid_false {f : RestoreFields} {meter month last : Nat} : restoreValid f meter month last = false ↔
    meter = 0 ∨ 999999999999 < meter ∨ 1 < f.state ∨ 15 < f.zone ∨ 15 < f.plan ∨ 15 < f.revision ∨ 4095 < f.stamp ∨ month < f.stamp ∨
      60000 < f.units ∨ 10000000 < f.arrears ∨ 50 < f.rate ∨ 99999 < f.carry ∨
      flag f.flags 3 = true ∧ (16777215 < f.firstTid ∨ f.count = 0 ∨ 6 < f.count ∨ 60000 < f.credit ∨ 2000 < f.free ∨
        flag f.flags 4 = true ∧ (15 < f.fromRev ∨ 15 < f.toRev) ∨
        f.count ≠ (if flag f.flags 4 then 4 else 0) + (if 0 < f.credit then 1 else 0) + (if 0 < f.free then 1 else 0) ∨
        last < f.firstTid + f.count - 1) := by
  rw [Bool.eq_false_iff, ne_eq]
  cases hissue : flag f.flags 3 with
  | false =>
    simp only [restoreValid, restoreIssue, hissue, ofCode_isSome, Bool.false_eq_true, if_false, Option.all_none, Bool.and_eq_true,
      decide_eq_true_eq, and_true, false_and, or_false]
    simp only [Config.maxMeter, Config.lastMonth, Config.maxUnits, Config.maxCents, Config.maxCarry]
    omega
  | true =>
    cases hchange : flag f.flags 4 with
    | false =>
      simp only [restoreValid, restoreIssue, hissue, hchange, ofCode_isSome, if_true, Bool.false_eq_true, if_false, Option.all_some,
        Option.all_none, LastIssue.valid, Option.isSome_none, Bool.and_eq_true, decide_eq_true_eq, and_true, true_and, false_and, false_or]
      simp only [Config.maxMeter, Config.lastMonth, Config.maxUnits, Config.maxCents, Config.maxCarry, Config.lastMinute, Config.maxFree]
      generalize (0 + (if 0 < f.credit then 1 else 0) + (if 0 < f.free then 1 else 0) : Nat) = count
      omega
    | true =>
      simp only [restoreValid, restoreIssue, hissue, hchange, ofCode_isSome, if_true, Option.all_some, LastIssue.valid,
        Option.isSome_some, Bool.and_eq_true, decide_eq_true_eq, true_and]
      simp only [Config.maxMeter, Config.lastMonth, Config.maxUnits, Config.maxCents, Config.maxCarry, Config.lastMinute, Config.maxFree]
      generalize (4 + (if 0 < f.credit then 1 else 0) + (if 0 < f.free then 1 else 0) : Nat) = count
      omega

/-- Settles O19. -/
theorem restoreWritesVersion : Obligations.RestoreWritesVersion := by
  intro lane tag meter slot last f s g t u v bad issue new ht hlast hbad hissue hnew
  have hlast' : restoredTid g.clk.minute = last := hlast.symm
  rw [← restoreValid_false] at hbad
  refine ⟨fun hout => exec_restore_answered ht ?_, fun hin => ?_⟩
  · simp only [restoreBody, hlast', hbad.mp hout, Bool.not_false, if_true]
    rfl
  have hvalid : restoreValid f meter g.clk.month last = true := Bool.of_not_eq_false fun h => hin (hbad.mpr h)
  refine ⟨fun hno => exec_restore_answered ht ?_, fun e he => ⟨fun hbusy => exec_restore_answered ht ?_, fun hidle => ?_⟩⟩
  · simp only [restoreBody, hlast', hvalid, Bool.not_true, Bool.false_eq_true, if_false, hno]
    rfl
  · simp only [restoreBody, hlast', hvalid, Bool.not_true, Bool.false_eq_true, if_false, he, Option.isSome_iff_ne_none.mpr hbusy, if_true]
    rfl
  · have hversion : restoreVersion f meter last = new := by
      have hstate : f.state ≤ 1 := by
        simp only [restoreValid, ofCode_isSome, Bool.and_eq_true, decide_eq_true_eq] at hvalid
        omega
      rw [hnew, hissue, restoreVersion, ofCode_getD hstate]
      rfl
    have hbody : restoreBody meter f g = replaceRecord e new (some false) g fun t => answered (Answer.ok (beBytes 3 last)) t := by
      simp only [restoreBody, hlast', hvalid, Bool.not_true, Bool.false_eq_true, if_false, he, hidle, Option.isSome_none, hversion]
    exact ⟨fun hfree hw => exec_restore_answered ht (hbody.trans (replaceRecord_unwritten _ hfree hw)), fun htake hu =>
      ⟨fun hv => exec_restore_answered ht (hbody.trans (replaceRecord_unswapped _ htake hu hv)),
        fun hv => exec_restore_answered ht (hbody.trans (replaceRecord_marked _ htake hu hv))⟩⟩

/-! ### ENROL (R16, R17) -/

theorem exec_enrol_answered {lane tag meter plan revision eligible arrears rate : Nat} {s g t : State} {a : Answer}
    (h : taken (.enrol lane tag meter plan revision eligible arrears rate) s = some g)
    (hb : enrolBody meter plan revision eligible arrears rate g = answered a t) :
    exec (.enrol lane tag meter plan revision eligible arrears rate) s = .next (finish a t) :=
  serve_answered h hb

/-- The insertion position counts the smaller meters (R11). -/
theorem position_eq (d : Dir) (meter : Nat) :
    (meters d.view |>.filter fun m => decide (m < meter)).length = d.position meter := by
  rw [meters, List.filter_map, List.length_map, Dir.position]
  rfl

theorem enrolBody_outOfRange {meter plan revision eligible arrears rate : Nat} {s : State}
    (h : meter = 0 ∨ 999999999999 < meter ∨ 15 < plan ∨ 15 < revision ∨ 1 < eligible ∨ 10000000 < arrears ∨ 50 < rate) :
    enrolBody meter plan revision eligible arrears rate s = refuse .outOfRange s := by
  refine if_pos ?_
  simp only [Config.maxMeter, Config.maxCents, yesNo, Bool.not_eq_true', decide_eq_false_iff_not]
  omega

/-- What ENROL comes to once its operands are in range. -/
theorem enrolBody_inRange {meter plan revision eligible arrears rate : Nat} {s : State}
    (h : ¬ (meter = 0 ∨ 999999999999 < meter ∨ 15 < plan ∨ 15 < revision ∨ 1 < eligible ∨ 10000000 < arrears ∨ 50 < rate)) :
    enrolBody meter plan revision eligible arrears rate s =
      if (s.dir.lookup meter).isSome then refuse .duplicate s
      else if 4000 ≤ s.dir.count then refuse .directoryFull s
      else
        match s.zoneSearch meter with
        | .none => refuse .noZone s
        | .embargo => refuse .zoneEmbargo s
        | .zone z =>
          if (s.planAt plan).isNone then refuse .noPlan s
          else enrolStart meter z (newRecord meter z plan revision (decide (eligible = 1)) s.clk.month arrears rate) s := by
  refine if_neg ?_
  simp only [Config.maxMeter, Config.maxCents, yesNo, Bool.not_eq_true', decide_eq_false_iff_not]
  omega

theorem enrolStart_unwritten {meter zone : Nat} {r : Record} {s u : State} (hfree : s.ast.free ≠ []) (hw : drawWrite s = (true, u)) :
    enrolStart meter zone r s = refuse .storeFault (raise .storeWrite u) :=
  writeVersion_unwritten _ hfree hw

theorem enrolStart_unstarted {meter zone slot : Nat} {r : Record} {s t u v : State} (htake : takeSlot s = some (slot, t))
    (hu : drawWrite t = (false, u)) (hv : drawWrite (writeSlot slot r.sealed u) = (true, v)) :
    enrolStart meter zone r s = refuse .storeFault (freeSlot slot (raise .storeWrite v)) := by
  rw [enrolStart, writeVersion_written _ htake hu]
  exact retained_failed _ _ hv

theorem enrolStart_started {meter zone slot : Nat} {r : Record} {s t u v : State} (htake : takeSlot s = some (slot, t))
    (hu : drawWrite t = (false, u)) (hv : drawWrite (writeSlot slot r.sealed u) = (false, v)) :
    enrolStart meter zone r s = answered (Answer.ok (fieldBytes [(5, meter), (1, zone)]))
      (v.withDir { v.dir with change := some (.enrolling meter slot false
        (meters v.dir.view |>.filter fun m => decide (m < meter)).length v.dir.entries.length) }) := by
  rw [enrolStart, writeVersion_written _ htake hu, position_eq]
  exact retained_made _ _ hv

/-! ### RETIRE (R18) -/

theorem exec_retire_answered {lane tag meter writeOff : Nat} {s g t : State} {a : Answer}
    (h : taken (.retire lane tag meter writeOff) s = some g) (hb : retireBody meter writeOff g = answered a t) :
    exec (.retire lane tag meter writeOff) s = .next (finish a t) :=
  serve_answered h hb

theorem openBytes_length (s : State) (off n : Nat) : (openBytes s off n).length = n := by
  rw [openBytes, List.length_map, List.length_range]

theorem retireStart_started {e : Entry} {owed : Option Nat} {s u : State} (hw : drawWrite s = (false, u)) :
    retireStart e owed s = answered (Answer.ok (retirePayload u owed))
      (u.withDir { u.dir with change := some (.retiring e.meter e.slot (u.dir.index e.meter)) }) :=
  retained_made _ _ hw

theorem retireStart_unstarted {e : Entry} {owed : Option Nat} {s u : State} (hw : drawWrite s = (true, u)) :
    retireStart e owed s = refuse .storeFault (raise .storeWrite u) :=
  retained_failed _ _ hw

/-- What RETIRE comes to once its meter is found and has no quote. -/
theorem retireBody_found {meter writeOff : Nat} {s : State} {e : Entry} (hflag : writeOff ≤ 1) (he : s.dir.lookup meter = some e)
    (hidle : s.quoteLane meter = none) :
    retireBody meter writeOff s =
      if e.quarantined then (if writeOff = 1 then retireStart e none s else refuse .quarantined s)
      else if !(s.record e.slot).intact then
        (if writeOff = 1 then retireStart e none (quarantine meter s) else refuse .quarantined (quarantine meter s))
      else if 0 < (s.record e.slot).arrears ∧ writeOff ≠ 1 then refuse .debtOpen s
      else retireStart e (some (s.record e.slot).arrears) s := by
  simp only [retireBody, yesNo, decide_eq_true hflag, Bool.not_true, Bool.false_eq_true, if_false, he, hidle, Option.isSome_none]

/-- Settles O17: each request along its own checks. -/
theorem enrolAndRetireStart : Obligations.EnrolAndRetireStart := by
  constructor
  · intro lane tag meter plan revision eligible arrears rate zone slot s g t u v bad new ht hbad hnew
    refine ⟨fun hout => exec_enrol_answered ht (enrolBody_outOfRange (hbad.mp hout)), fun hin => ?_⟩
    have hbody := enrolBody_inRange (s := g) (mt hbad.mpr hin)
    refine ⟨fun hdouble => exec_enrol_answered ht (hbody.trans (if_pos (Option.isSome_iff_ne_none.mpr hdouble))), fun hfresh hfull =>
      exec_enrol_answered ht (hbody.trans ?_), fun hfresh hroom => ?_⟩
    · rw [hfresh]
      exact if_pos hfull
    · rw [hfresh, Option.isSome_none, if_neg Bool.false_ne_true, if_neg (Nat.not_le.mpr hroom)] at hbody
      refine ⟨fun hzone => ?_, fun hzone => ?_, fun hzone => ?_⟩ <;> rw [hzone] at hbody
      · exact exec_enrol_answered ht hbody
      · exact exec_enrol_answered ht hbody
      · refine ⟨fun hplan => exec_enrol_answered ht (hbody.trans (if_pos (Option.isNone_iff_eq_none.mpr hplan))), fun hplan => ?_⟩
        have hstart := hbody.trans (if_neg fun h => hplan (Option.isNone_iff_eq_none.mp h))
        subst hnew
        exact ⟨fun hfree hw => exec_enrol_answered ht (hstart.trans (enrolStart_unwritten hfree hw)), fun htake hu =>
          ⟨fun hv => exec_enrol_answered ht (hstart.trans (enrolStart_unstarted htake hu hv)),
            fun hv => exec_enrol_answered ht (hstart.trans (enrolStart_started htake hu hv))⟩⟩
  · intro lane tag meter writeOff s g u ht
    refine ⟨fun hflag => exec_retire_answered ht ?_, fun hflag hno => exec_retire_answered ht ?_, fun e hflag he =>
      ⟨fun hbusy => exec_retire_answered ht ?_, fun hidle => ?_⟩⟩
    · simp only [retireBody, yesNo, decide_eq_false (Nat.not_le.mpr hflag), Bool.not_false, if_true]
      rfl
    · simp only [retireBody, yesNo, decide_eq_true hflag, Bool.not_true, Bool.false_eq_true, if_false, hno]
      rfl
    · simp only [retireBody, yesNo, decide_eq_true hflag, Bool.not_true, Bool.false_eq_true, if_false, he,
        Option.isSome_iff_ne_none.mpr hbusy, if_true]
      rfl
    have hbody := retireBody_found hflag he hidle
    have hkept : writeOff = 0 → ¬ writeOff = 1 := by omega
    refine ⟨fun hmark hkeep => ?_, fun hmark hoff hw => ?_, fun hmark hbad => ⟨fun hkeep => ?_, fun hoff => ⟨fun hw => ?_, fun hw => ?_⟩⟩,
      fun hmark hgood => ⟨fun howes hkeep => ?_, fun hclear hw => ?_⟩, fun hcase hw => ?_⟩
    · rw [if_pos hmark, if_neg (hkept hkeep)] at hbody
      exact exec_retire_answered ht hbody
    · rw [if_pos hmark, if_pos hoff, retireStart_started hw] at hbody
      exact ⟨openBytes u 0 4, openBytes_length u 0 4, exec_retire_answered ht hbody⟩
    · rw [hmark, if_neg Bool.false_ne_true, hbad, Bool.not_false, if_pos rfl, if_neg (hkept hkeep)] at hbody
      exact exec_retire_answered ht hbody
    · rw [hmark, if_neg Bool.false_ne_true, hbad, Bool.not_false, if_pos rfl, if_pos hoff, retireStart_started hw] at hbody
      exact ⟨openBytes u 0 4, openBytes_length u 0 4, exec_retire_answered ht hbody⟩
    · rw [hmark, if_neg Bool.false_ne_true, hbad, Bool.not_false, if_pos rfl, if_pos hoff, retireStart_unstarted hw] at hbody
      exact exec_retire_answered ht hbody
    · rw [hmark, if_neg Bool.false_ne_true, hgood, Bool.not_true, if_neg Bool.false_ne_true, if_pos ⟨howes, hkept hkeep⟩] at hbody
      exact exec_retire_answered ht hbody
    · rw [hmark, if_neg Bool.false_ne_true, hgood, Bool.not_true, if_neg Bool.false_ne_true, if_neg (by omega),
        retireStart_started hw] at hbody
      exact exec_retire_answered ht hbody
    · rcases hcase with ⟨hmark, hoff⟩ | ⟨hmark, hgood, hclear⟩
      · rw [if_pos hmark, if_pos hoff, retireStart_unstarted hw] at hbody
        exact exec_retire_answered ht hbody
      · rw [hmark, if_neg Bool.false_ne_true, hgood, Bool.not_true, if_neg Bool.false_ne_true, if_neg (by omega),
          retireStart_unstarted hw] at hbody
        exact exec_retire_answered ht hbody

end Sys2Proof.Machine.RecordRequests

namespace Sys2Proof.Machine.RecordRequests

open Sys2Proof Sys2Proof.Machine Sys2Proof.Machine.KeysAndLock Sys2Proof.Machine.LanesAndArbiter Sys2Proof.Machine.VendingFloat
  Sys2Proof.Machine.Quotes

/-! ### Parts of a payload -/

/-- The part of a list that stands behind a first part of known length. -/
theorem take_drop_part {α : Type} {l a b c : List α} {n m : Nat} (hl : l = a ++ (b ++ c)) (ha : a.length = n) (hb : b.length = m) :
    (l.drop n).take m = b := by
  rw [hl, List.drop_left' ha, List.take_left' hb]

theorem fieldBytes_length (fs : List Field) : (fieldBytes fs).length = (fs.map Prod.fst).sum := by
  simp only [fieldBytes, List.length_flatMap, beBytes_length]

theorem maybeBytes_length (s : State) (off n : Nat) (o : Option Nat) : (maybeBytes s off n o).length = n := by
  cases o with
  | none => exact openBytes_length s off n
  | some v => exact beBytes_length n v

theorem quoteStateByte_length (s : State) (off : Nat) (o : Option Quote) : (quoteStateByte s off o).length = 1 := by
  unfold quoteStateByte
  split
  · rfl
  · split
    · rfl
    · rfl
    · exact openBytes_length s off 1

/-! ### QUERY (R7, R24) -/

theorem exec_query_answered {lane tag meter : Nat} {s g t : State} {a : Answer} (h : taken (.query lane tag meter) s = some g)
    (hb : queryBody meter g = answered a t) : exec (.query lane tag meter) s = .next (finish a t) :=
  serve_answered h hb

/-- Free units are due to a record read in the present month when it may have them, has not, and its plan gives some (R24, R53). -/
theorem freeIsDue_rolled (s : State) (r : Record) (month : Nat) : s.freeIsDue (r.rolled month) =
    (r.eligible && !(r.taken && decide (month ≤ r.stamp)) && (s.planAt r.plan).any fun p => decide (0 < p.free)) := by
  rw [rolled_eq, State.freeIsDue]
  dsimp only [freeDue]
  cases r.eligible <;> cases (r.taken && decide (month ≤ r.stamp)) <;> cases s.planAt r.plan <;> simp

/-- The record and zone of QUERY's payload: 21 bytes. -/
def queryRecordBytes (s : State) (meter : Nat) (r : Record) : List Byte :=
  fieldBytes [(5, meter), (1, r.state.code), (1, queryFlags r (s.freeIsDue r)), (1, r.plan), (1, r.zone), (1, r.revision),
    (1, ((s.zoneAt r.zone).resolve r.revision).code), (2, r.units), (4, r.arrears), (1, r.rate), (3, r.carry)]

/-- The last issue's identifier and figures in QUERY's payload: 8 bytes. -/
def queryIssueBytes (s : State) (r : Record) : List Byte :=
  maybeBytes s 24 3 (r.issue.map (·.firstTid)) ++ maybeBytes s 27 1 (r.issue.map (·.count)) ++
    maybeBytes s 28 2 (r.issue.map (·.credit)) ++ maybeBytes s 30 2 (r.issue.map (·.free))

/-- The last issue's key change in QUERY's payload: 2 bytes. -/
def queryChangeBytes (r : Record) : List Byte :=
  fieldBytes [(1, orFF ((r.issue.bind (·.change)).map (·.fromRev))), (1, orFF ((r.issue.bind (·.change)).map (·.toRev)))]

/-- The quote lane and state of QUERY's payload: 2 bytes. -/
def queryQuoteBytes (s : State) (meter : Nat) : List Byte :=
  beBytes 1 ((s.quoteLane meter).getD 0) ++ quoteStateByte s 35 ((s.quoteLane meter).bind s.quoteAt)

theorem queryPayload_eq (s : State) (meter : Nat) (r : Record) : queryPayload s meter r =
    queryRecordBytes s meter r ++ (maybeBytes s 21 3 r.lastTid ++ (queryIssueBytes s r ++ (queryChangeBytes r ++
      queryQuoteBytes s meter))) := by
  simp only [queryPayload, queryRecordBytes, queryIssueBytes, queryChangeBytes, queryQuoteBytes, fieldBytes, List.flatMap_cons,
    List.flatMap_nil, List.append_assoc, List.nil_append]

theorem queryRecordBytes_length (s : State) (meter : Nat) (r : Record) : (queryRecordBytes s meter r).length = 21 :=
  fieldBytes_length _

theorem queryIssueBytes_length (s : State) (r : Record) : (queryIssueBytes s r).length = 8 := by
  simp only [queryIssueBytes, List.length_append, maybeBytes_length]

theorem queryChangeBytes_length (r : Record) : (queryChangeBytes r).length = 2 := fieldBytes_length _

theorem queryQuoteBytes_length (s : State) (meter : Nat) : (queryQuoteBytes s meter).length = 2 := by
  simp only [queryQuoteBytes, List.length_append, beBytes_length, quoteStateByte_length]

theorem queryPayload_length (s : State) (meter : Nat) (r : Record) : (queryPayload s meter r).length = 36 := by
  simp only [queryPayload_eq, List.length_append, queryRecordBytes_length, maybeBytes_length, queryIssueBytes_length,
    queryChangeBytes_length, queryQuoteBytes_length]

theorem queryPayload_record (s : State) (meter : Nat) (r : Record) :
    (queryPayload s meter r).take 21 = queryRecordBytes s meter r := by
  rw [queryPayload_eq, List.take_left' (queryRecordBytes_length s meter r)]

theorem queryPayload_lastTid (s : State) (meter : Nat) (r : Record) :
    ((queryPayload s meter r).drop 21).take 3 = maybeBytes s 21 3 r.lastTid :=
  take_drop_part (queryPayload_eq s meter r) (queryRecordBytes_length s meter r) (maybeBytes_length _ _ _ _)

theorem queryPayload_issue (s : State) (meter : Nat) (r : Record) :
    ((queryPayload s meter r).drop 24).take 10 = queryIssueBytes s r ++ queryChangeBytes r := by
  have hsplit : queryPayload s meter r = (queryRecordBytes s meter r ++ maybeBytes s 21 3 r.lastTid) ++
      ((queryIssueBytes s r ++ queryChangeBytes r) ++ queryQuoteBytes s meter) := by
    simp only [queryPayload_eq, List.append_assoc]
  refine take_drop_part hsplit ?_ ?_
  · rw [List.length_append, queryRecordBytes_length, maybeBytes_length]
  · rw [List.length_append, queryIssueBytes_length, queryChangeBytes_length]

theorem queryPayload_change (s : State) (meter : Nat) (r : Record) :
    ((queryPayload s meter r).drop 32).take 2 = queryChangeBytes r := by
  have hsplit : queryPayload s meter r = (queryRecordBytes s meter r ++ (maybeBytes s 21 3 r.lastTid ++ queryIssueBytes s r)) ++
      (queryChangeBytes r ++ queryQuoteBytes s meter) := by
    simp only [queryPayload_eq, List.append_assoc]
  refine take_drop_part hsplit ?_ (queryChangeBytes_length r)
  simp only [List.length_append, queryRecordBytes_length, maybeBytes_length, queryIssueBytes_length]

theorem queryPayload_quote (s : State) (meter : Nat) (r : Record) : (queryPayload s meter r).drop 34 = queryQuoteBytes s meter := by
  have hsplit : queryPayload s meter r =
      (queryRecordBytes s meter r ++ (maybeBytes s 21 3 r.lastTid ++ (queryIssueBytes s r ++ queryChangeBytes r))) ++
        queryQuoteBytes s meter := by
    simp only [queryPayload_eq, List.append_assoc]
  rw [hsplit]
  refine List.drop_left' ?_
  simp only [List.length_append, queryRecordBytes_length, maybeBytes_length, queryIssueBytes_length, queryChangeBytes_length]

theorem queryBody_good {meter : Nat} {s : State} {e : Entry} {r : Record} (he : s.dir.lookup meter = some e)
    (hmark : e.quarantined = false) (hr : s.record e.slot = r) (hgood : r.intact = true) :
    queryBody meter s = answered (Answer.ok (queryPayload s meter (r.rolled s.clk.month))) s := by
  subst hr
  simp only [queryBody, findRecord_good he hmark hgood]

theorem queryBody_unsound {meter : Nat} {s : State} {e : Entry} (he : s.dir.lookup meter = some e) (hmark : e.quarantined = false)
    (hbad : (s.record e.slot).intact = false) : queryBody meter s =
      answered ⟨.quarantined, fieldBytes [(5, meter), (1, (s.record e.slot).state.code), (1, 1)], none⟩ (quarantine meter s) := by
  simp only [queryBody, findRecord_unsound he hmark hbad]

theorem quarantine_made {meter : Nat} {s u : State} (hw : drawWrite s = (false, u)) :
    quarantine meter s = raise .recordCheck (u.withDir (u.dir.mark meter true)) := by
  simp only [quarantine, hw]

theorem quarantine_failed {meter : Nat} {s u : State} (hw : drawWrite s = (true, u)) :
    quarantine meter s = raiseBeside .recordCheck u := by
  simp only [quarantine, hw]

/-- Settles O15: the payload by its parts, and the mark by its write. -/
theorem queryReports : Obligations.QueryReports := by
  refine ⟨fun lane tag meter s g ht => ⟨fun hno => exec_query_answered ht ?_, fun e r he hmark hr hgood => ?_⟩,
    fun lane tag meter s g u e ht he => ⟨fun hmark => exec_query_answered ht ?_, fun hmark hbad hw => exec_query_answered ht ?_,
      fun hmark hbad => exec_query_answered ht (queryBody_unsound he hmark hbad)⟩,
    fun meter s u => ⟨fun hw => quarantine_made hw, fun hw => ?_⟩⟩
  · simp only [queryBody, findRecord_missing hno]
    rfl
  · refine ⟨_, exec_query_answered ht (queryBody_good he hmark hr hgood), queryPayload_length _ _ _, ?_, fun n hn => ?_, fun i hi => ?_,
      fun hno => ?_, fun hnone => ?_, fun k q hk hq => ?_⟩
    · rw [queryPayload_record, queryRecordBytes, freeIsDue_rolled, rolled_eq]
      rfl
    · rw [queryPayload_lastTid, rolled_eq]
      dsimp only
      rw [hn]
      rfl
    · rw [queryPayload_issue, rolled_eq, queryIssueBytes, queryChangeBytes]
      dsimp only
      rw [hi]
      rfl
    · rw [queryPayload_change, rolled_eq, queryChangeBytes]
      dsimp only
      rw [hno]
      decide
    · rw [queryPayload_quote, queryQuoteBytes, hnone, Option.getD_none, beBytes_lane_none]
      rfl
    · rw [queryPayload_quote, queryQuoteBytes, hk]
      refine ⟨fun hopen => ?_, fun hheld => ?_⟩
      · simp only [Option.getD_some, Option.bind_some, hq, quoteStateByte, hopen]
      · simp only [Option.getD_some, Option.bind_some, hq, quoteStateByte, hheld]
  · simp only [queryBody, findRecord_quarantined he hmark]
  · rw [queryBody_unsound he hmark hbad, quarantine_made hw]
  · rw [quarantine_failed hw]
    exact raiseBeside_order _ _

end Sys2Proof.Machine.RecordRequests

/-! ## STATUS: O53 -/

namespace Sys2Proof.Machine.PartStatus

open Sys2Proof Sys2Proof.Machine Sys2Proof.Machine.LanesAndArbiter Sys2Proof.Machine.RecordRequests

/-! ### A list cut into parts -/

/-- The part of a joined list that stands behind the parts before it. -/
theorem flatten_part {α : Type} {ps : List (List α)} {i : Nat} {p : List α} (h : ps[i]? = some p) :
    (ps.flatten.drop (((ps.map List.length).take i).sum)).take p.length = p := by
  obtain ⟨hi, rfl⟩ := List.getElem?_eq_some_iff.mp h
  have hsplit : ps = ps.take i ++ ps[i] :: ps.drop (i + 1) := by rw [← List.drop_eq_getElem_cons hi, List.take_append_drop]
  have hflat : ps.flatten = (ps.take i).flatten ++ (ps[i] ++ (ps.drop (i + 1)).flatten) := by
    have hjoined := congrArg List.flatten hsplit
    rwa [List.flatten_append, List.flatten_cons] at hjoined
  refine take_drop_part hflat ?_ rfl
  rw [List.length_flatten, List.map_take]

/-! ### The payload's items (R163, R175) -/

/-- The marks, the cipher, the mode, the balance and the reservation of STATUS. -/
def statusMarks (s : State) : List Byte :=
  fieldBytes [(1, bit s.fmn.zeroisePending), (1, bit s.fmn.configLock), (1, bit (decide (s.fmn.lockKey = 0))), (1, bit (!s.tcu.passed)),
    (1, bit s.restrictedMode), (4, s.flt.balance), (4, s.flt.reserved)]

/-- STATUS's payload, item by item. -/
def statusItems (s : State) : List (List Byte) :=
  [fieldBytes [(1, bit s.fmn.locked), (1, s.fmn.hold), (1, s.fmn.stack.length)], stackBytes s.fmn.stack.reverse[0]?,
    stackBytes s.fmn.stack.reverse[1]?, latestBytes s.fmn.latest, statusMarks s, presenceBytes s 29 3 s.flt.deadline,
    [BitVec.ofNat 8 (bit s.deadlineReached)], fieldBytes [(3, s.clk.minute), (1, s.clk.second), (2, s.clk.month)],
    presenceBytes s 40 3 s.clk.boundary, beBytes 2 s.ttb.generation, presenceBytes s 46 2 s.ttb.armed, beBytes 2 s.dir.count,
    changeBytes s.dir.change, beBytes 2 s.ast.free.length, laneBytes s 1, laneBytes s 2, laneBytes s 3, laneBytes s 4, laneBytes s 5,
    laneBytes s 6, laneBytes s 7, laneBytes s 8, beBytes 1 (s.queueAt 0).length]

/-- The items' lengths, 84 bytes in all (R175). -/
def statusLengths : List Nat := [3, 3, 3, 7, 13, 4, 1, 6, 4, 2, 3, 2, 6, 2, 3, 3, 3, 3, 3, 3, 3, 3, 1]

theorem statusPayload_items (s : State) : statusPayload s = (statusItems s).flatten := by
  simp only [statusPayload, statusFirst, statusSecond, statusItems, statusMarks, counterLanes, List.flatMap_cons, List.flatMap_nil,
    List.flatten_cons, List.flatten_nil, List.append_assoc, List.append_nil]

theorem presenceBytes_length (s : State) (off n : Nat) (o : Option Nat) : (presenceBytes s off n o).length = n + 1 := by
  cases o with
  | none => exact congrArg (· + 1) (openBytes_length s _ n)
  | some v => exact congrArg (· + 1) (beBytes_length n v)

theorem stackBytes_length (o : Option HoldEntry) : (stackBytes o).length = 3 := by
  cases o with
  | none => rfl
  | some e => exact fieldBytes_length _

theorem stackBytes_eq (o : Option HoldEntry) :
    stackBytes o = (o.map fun e => fieldBytes [(1, e.saved), (1, e.kind.code), (1, e.level)]).getD [0, 0, 0] := by
  cases o <;> rfl

theorem latestBytes_length (o : Option LatestFault) : (latestBytes o).length = 7 := by
  cases o with
  | none => rfl
  | some f => exact fieldBytes_length _

theorem changeBytes_length (o : Option Change) : (changeBytes o).length = 6 := by
  unfold changeBytes
  split <;> exact fieldBytes_length _

theorem laneBytes_length (s : State) (lane : Nat) : (laneBytes s lane).length = 3 := by
  rw [laneBytes, List.length_append, quoteStateByte_length, fieldBytes_length]
  rfl

theorem statusItems_lengths (s : State) : (statusItems s).map List.length = statusLengths := by
  simp only [statusItems, statusMarks, List.map_cons, List.map_nil, stackBytes_length, latestBytes_length, presenceBytes_length,
    changeBytes_length, laneBytes_length, beBytes_length, fieldBytes_length]
  rfl

/-- An item of STATUS at its place in the payload. -/
theorem statusPayload_item {s : State} {p : List Byte} (i : Nat) {off n : Nat} (h : (statusItems s)[i]? = some p)
    (hoff : (statusLengths.take i).sum = off) (hn : statusLengths[i]? = some n) : ((statusPayload s).drop off).take n = p := by
  have hlength : p.length = n := by
    rw [← statusItems_lengths s, List.getElem?_map, h] at hn
    exact Option.some.inj hn
  have hpart := flatten_part h
  rwa [statusItems_lengths, hoff, hlength, ← statusPayload_items] at hpart

theorem statusPayload_length (s : State) : (statusPayload s).length = 84 := by
  rw [statusPayload_items, List.length_flatten, statusItems_lengths]
  rfl

/-! ### What the items say -/

theorem statusMarks_eq (s : State) : statusMarks s =
    fieldBytes [(1, if s.fmn.zeroisePending then 1 else 0), (1, if s.fmn.configLock then 1 else 0),
      (1, if s.fmn.lockKey = 0 then 1 else 0), (1, if s.tcu.passed then 0 else 1), (1, if s.restrictedMode then 1 else 0),
      (4, s.flt.balance), (4, s.flt.reserved)] := by
  have hcipher : bit (!s.tcu.passed) = if s.tcu.passed then 0 else 1 := by cases s.tcu.passed <;> rfl
  rw [statusMarks, bit_decide, hcipher]
  rfl

/-- A lane's item, for a lane whose quote is not ISSUING. -/
theorem laneBytes_eq {s : State} {k : Nat} (h : ∀ q, s.quoteAt k = some q → q.state ≠ .issuing) : laneBytes s k =
    fieldBytes [(1, s.levelAt k), (1, (s.queueAt k).length),
      (1, ((s.quoteAt k).map fun q => if q.state = .held then 2 else 1).getD 0)] := by
  have hbyte : quoteStateByte s (58 + 3 * k) (s.quoteAt k) =
      beBytes 1 (((s.quoteAt k).map fun q => if q.state = .held then 2 else 1).getD 0) := by
    cases hq : s.quoteAt k with
    | none => exact beBytes_lane_none.symm
    | some q =>
      simp only [quoteStateByte, Option.map_some, Option.getD_some]
      cases hstate : q.state with
      | opened => rfl
      | held => rfl
      | issuing => exact absurd hstate (h q hq)
  simp only [laneBytes, hbyte, fieldBytes, List.flatMap_cons, List.flatMap_nil, List.append_assoc, List.append_nil]

/-- The first byte of an item whose value is absent. -/
theorem take_presence_none {l : List Byte} {s : State} {off n m : Nat} (h : l.take (m + 1) = presenceBytes s off n none) :
    l.take 1 = [0] := by
  have htake : (l.take (m + 1)).take 1 = l.take 1 := by rw [List.take_take, Nat.min_eq_left (Nat.le_add_left 1 m)]
  rw [← htake, h]
  rfl

theorem beBytes_one (v : Nat) : beBytes 1 v = [BitVec.ofNat 8 v] := by
  simp only [beBytes, Nat.pow_zero, Nat.div_one]

/-- The deadline's item and its mark's, which stand side by side. -/
theorem statusPayload_deadline {s : State} {d : Nat} (h : s.flt.deadline = some d) :
    ((statusPayload s).drop 29).take 5 = fieldBytes [(1, 1), (3, d), (1, if d ≤ s.clk.minute then 1 else 0)] := by
  have hitem : ((statusPayload s).drop 29).take 4 = presenceBytes s 29 3 s.flt.deadline := statusPayload_item 5 rfl rfl rfl
  have hmark : ((statusPayload s).drop 33).take 1 = [BitVec.ofNat 8 (bit s.deadlineReached)] := statusPayload_item 6 rfl rfl rfl
  have hreached : bit s.deadlineReached = if d ≤ s.clk.minute then 1 else 0 := by
    rw [Quotes.deadlineReached_some h, bit_decide]
  have hsplit : ((statusPayload s).drop 29).take 5 = ((statusPayload s).drop 29).take 4 ++ ((statusPayload s).drop 33).take 1 := by
    rw [show (5 : Nat) = 4 + 1 from rfl, List.take_add, List.drop_drop]
  rw [hsplit, hitem, hmark, hreached, h, ← beBytes_one]
  rfl

/-- Where a counter lane's item stands. -/
theorem statusItems_lane (s : State) {k : Nat} (hk : k ∈ counterLanes) : (statusItems s)[13 + k]? = some (laneBytes s k) ∧
    (statusLengths.take (13 + k)).sum = 56 + 3 * k ∧ statusLengths[13 + k]? = some 3 := by
  simp only [counterLanes, List.mem_cons, List.not_mem_nil, or_false] at hk
  rcases hk with rfl | rfl | rfl | rfl | rfl | rfl | rfl | rfl
  all_goals exact ⟨rfl, rfl, rfl⟩

/-- Settles O53: each item at its place in the payload. -/
theorem statusReports : Obligations.StatusReports := by
  intro lane tag s g ht hquotes
  refine ⟨statusPayload g, serve_answered (body := statusBody) ht rfl, statusPayload_length g, statusPayload_item 0 rfl rfl rfl,
    (statusPayload_item 4 rfl rfl rfl).trans (statusMarks_eq g), fun d hd => ?_, fun hno => ⟨?_, ?_⟩, fun i hi => ?_, fun hno => ?_,
    fun l hl => ?_, fun b hb => ?_, fun hno => ?_, fun m hm => ?_, fun hno => ?_, fun hno => ?_, fun m slot q p c hchange => ?_,
    fun m slot c hchange => ?_, statusPayload_item 7 rfl rfl rfl, statusPayload_item 9 rfl rfl rfl, statusPayload_item 11 rfl rfl rfl,
    statusPayload_item 13 rfl rfl rfl, fun k hk => ?_, ?_⟩
  · exact statusPayload_deadline hd
  · exact take_presence_none (m := 3) ((statusPayload_item 5 rfl rfl rfl).trans (congrArg _ hno))
  · have hmark : g.deadlineReached = false := by rw [State.deadlineReached, hno, Option.any_none]
    exact (statusPayload_item 6 rfl rfl rfl).trans (by rw [hmark]; rfl)
  · obtain rfl | rfl : i = 0 ∨ i = 1 := by omega
    · exact (statusPayload_item 1 rfl rfl rfl).trans (stackBytes_eq _)
    · exact (statusPayload_item 2 rfl rfl rfl).trans (stackBytes_eq _)
  · exact (statusPayload_item 3 rfl rfl rfl).trans (congrArg _ hno)
  · exact (statusPayload_item 3 rfl rfl rfl).trans (congrArg _ hl)
  · exact (statusPayload_item 8 rfl rfl rfl).trans (congrArg _ hb)
  · exact take_presence_none (m := 3) ((statusPayload_item 8 rfl rfl rfl).trans (congrArg _ hno))
  · exact (statusPayload_item 10 rfl rfl rfl).trans (congrArg _ hm)
  · exact take_presence_none (m := 2) ((statusPayload_item 10 rfl rfl rfl).trans (congrArg _ hno))
  · exact (statusPayload_item 12 rfl rfl rfl).trans ((congrArg _ hno).trans (by decide))
  · exact (statusPayload_item 12 rfl rfl rfl).trans (congrArg _ hchange)
  · exact (statusPayload_item 12 rfl rfl rfl).trans (congrArg _ hchange)
  · obtain ⟨hitem, hoff, hlength⟩ := statusItems_lane g hk
    exact (statusPayload_item (13 + k) hitem hoff hlength).trans (laneBytes_eq (hquotes k hk))
  · have hlast : ((statusPayload g).drop 83).take 1 = beBytes 1 (g.queueAt 0).length := statusPayload_item 22 rfl rfl rfl
    have hleft : ((statusPayload g).drop 83).length = 1 := by rw [List.length_drop, statusPayload_length]
    rwa [List.take_of_length_le (Nat.le_of_eq hleft)] at hlast

end Sys2Proof.Machine.PartStatus

/-! ## QUOTE: O31 -/

namespace Sys2Proof.Machine.QuoteOpening

open Sys2Proof Sys2Proof.Machine Sys2Proof.Machine.LanesAndArbiter Sys2Proof.Machine.RecordRequests Sys2Proof.Machine.KeysAndLock
  Sys2Proof.Machine.Quotes Sys2Proof.Machine.VendingFloat Sys2Proof.Machine.VoidedQuotes
  Sys2Proof.Machine.FailedIssue

/-! ### The figures' mark of a tender paid (R58, R66) -/

theorem paidFigures_paid {r : Record} {p : Plan} {t : Nat} {restricted : Bool} {f : Figures}
    (h : paidFigures r p t restricted = .ok f) : f.paid = true := by
  unfold paidFigures at h
  dsimp only at h
  split at h
  · split at h
    · cases h
    · cases h
      rfl
  · split at h
    · cases h
    · cases h
      rfl

theorem freeFigures_unpaid {r : Record} {p : Plan} {restricted : Bool} {f : Figures} (h : freeFigures r p restricted = .ok f) :
    f.paid = false := by
  unfold freeFigures at h
  split at h
  · cases h
  · cases h
    rfl

/-- A sale is paid when its tender, cut to the cap of a restricted float, is above 0. -/
theorem computeCredit_paid {r : Record} {p : Plan} {offered cap : Nat} {restricted : Bool} {f : Figures}
    (h : computeCredit r p offered (if restricted then some cap else none) = .ok f) :
    f.paid = decide (0 < if restricted then min offered cap else offered) := by
  have hpath (t : Nat) (b : Bool) (ht : (if t = 0 then freeFigures r p b
      else if t < fixedDue r p + p.minimum then .error .tenderLow else paidFigures r p t b) = .ok f) : f.paid = decide (0 < t) := by
    split at ht
    · rename_i hzero
      rw [freeFigures_unpaid ht, hzero]
      rfl
    · rename_i hpos
      split at ht
      · cases ht
      · rw [paidFigures_paid ht, decide_eq_true (Nat.pos_of_ne_zero hpos)]
  cases restricted with
  | false => exact hpath offered false h
  | true => exact hpath (min offered cap) true h

/-! ### The checks of R71, in a state that no event awaits -/

section Checks

variable {lane meter offered : Nat} {e : Entry} {r : Record} {key : KeyRef} {change : Option KeyRef} {s g : State}

theorem quoteBody_open (hs : s = setNote lane .none g) (hmid : s.env.mid = []) (h : s.quoteAt lane ≠ none) :
    quoteBody lane meter offered g = refuse .quoteOpen s := by
  subst hs
  simp only [quoteBody, midEvent_none hmid, Option.isSome_iff_ne_none.mpr h, if_true]

theorem quoteBody_missing (hs : s = setNote lane .none g) (hmid : s.env.mid = []) (hfree : s.quoteAt lane = none)
    (h : findRecord meter s = .missing) : quoteBody lane meter offered g = refuse .notFound s := by
  subst hs
  simp only [quoteBody, midEvent_none hmid, hfree, Option.isSome_none, Bool.false_eq_true, if_false, h]

theorem quoteBody_bad {t : State} (hs : s = setNote lane .none g) (hmid : s.env.mid = []) (hfree : s.quoteAt lane = none)
    (h : findRecord meter s = .bad e t) : quoteBody lane meter offered g = refuse .quarantined t := by
  subst hs
  simp only [quoteBody, midEvent_none hmid, hfree, Option.isSome_none, Bool.false_eq_true, if_false, h]

theorem quoteBody_good (hs : s = setNote lane .none g) (hmid : s.env.mid = []) (hfree : s.quoteAt lane = none)
    (h : findRecord meter s = .good e r) :
    quoteBody lane meter offered g = quoteFound lane meter offered e (r.rolled s.clk.month) s := by
  subst hs
  simp only [quoteBody, midEvent_none hmid, hfree, Option.isSome_none, Bool.false_eq_true, if_false, h]

theorem quoteFound_suspended (h : r.state = .suspended) : quoteFound lane meter offered e r s = refuse .suspended s := if_pos h

theorem quoteFound_busy (hstate : r.state = .active) (h : s.quoteLane meter ≠ none) :
    quoteFound lane meter offered e r s = refuse .meterBusy s := by
  simp only [quoteFound, hstate, reduceCtorEq, if_false, Option.isSome_iff_ne_none.mpr h, if_true]

theorem quoteFound_embargo (hstate : r.state = .active) (hidle : s.quoteLane meter = none) (h : (s.zoneAt r.zone).action = .embargo) :
    quoteFound lane meter offered e r s = refuse .zoneEmbargo s := by
  simp only [quoteFound, hstate, reduceCtorEq, if_false, hidle, Option.isSome_none, Bool.false_eq_true, h, if_true]

theorem quoteFound_stranded (hstate : r.state = .active) (hidle : s.quoteLane meter = none)
    (hzone : (s.zoneAt r.zone).action ≠ .embargo) (h : (s.zoneAt r.zone).resolve r.revision = .stranded) :
    quoteFound lane meter offered e r s = answered ⟨.keyUnavailable, fieldBytes [(1, 3), (1, 0xFF)], none⟩ s := by
  simp only [quoteFound, hstate, reduceCtorEq, if_false, hidle, Option.isSome_none, Bool.false_eq_true, if_neg hzone, h]
  rfl

/-- The keys a sale needs, as the record's revision resolves (R38, R71). -/
theorem quoteFound_keyed (hstate : r.state = .active) (hidle : s.quoteLane meter = none) (hzone : (s.zoneAt r.zone).action ≠ .embargo)
    (h : (s.zoneAt r.zone).resolve r.revision = .same key ∧ change = none ∨
      ∃ old, (s.zoneAt r.zone).resolve r.revision = .due old key ∧ change = some old) :
    quoteFound lane meter offered e r s = quoteKeyed lane offered e r key change s := by
  obtain ⟨hsame, rfl⟩ | ⟨old, hdue, rfl⟩ := h
  · simp only [quoteFound, hstate, reduceCtorEq, if_false, hidle, Option.isSome_none, Bool.false_eq_true, if_neg hzone, hsame]
  · simp only [quoteFound, hstate, reduceCtorEq, if_false, hidle, Option.isSome_none, Bool.false_eq_true, if_neg hzone, hdue]

theorem unloaded_key (h : (s.slotAt key.slot).isLoaded = false) : s.unloaded (neededSlots key change) = some key.slot := by
  simp only [State.unloaded, neededSlots, List.find?_cons, h, Bool.not_false]

theorem unloaded_change {old : KeyRef} (h : (s.slotAt key.slot).isLoaded = true) (hold : (s.slotAt old.slot).isLoaded = false) :
    s.unloaded (neededSlots key (some old)) = some old.slot := by
  simp only [State.unloaded, neededSlots, Option.map_some, Option.toList_some, List.find?_cons, h, hold, Bool.not_true, Bool.not_false]

theorem unloaded_none (h : (s.slotAt key.slot).isLoaded = true) (hold : ∀ old, change = some old → (s.slotAt old.slot).isLoaded = true) :
    s.unloaded (neededSlots key change) = none := by
  cases change with
  | none => simp only [State.unloaded, neededSlots, Option.map_none, Option.toList_none, List.find?_cons, h, Bool.not_true, List.find?_nil]
  | some old =>
    simp only [State.unloaded, neededSlots, Option.map_some, Option.toList_some, List.find?_cons, h, hold old rfl, Bool.not_true,
      List.find?_nil]

theorem quoteKeyed_unloaded {n : Nat} (hmid : s.env.mid = []) (h : s.unloaded (neededSlots key change) = some n) :
    quoteKeyed lane offered e r key change s = answered ⟨.keyUnavailable, fieldBytes [(1, 1), (1, n)], none⟩ s := by
  simp only [quoteKeyed, midEvent_none hmid, h]
  rfl

theorem quoteKeyed_loaded (hmid : s.env.mid = []) (h : s.unloaded (neededSlots key change) = none) :
    quoteKeyed lane offered e r key change s = quotePriced lane offered e r key change s := by
  simp only [quoteKeyed, midEvent_none hmid, h]

theorem quotePriced_unsound (hmid : s.env.mid = []) (h : s.tcu.passed = false) :
    quotePriced lane offered e r key change s = refuse .cipherFault s := by
  simp only [quotePriced, midEvent_none hmid, h, Bool.not_false, if_true]

theorem quotePriced_clockEnd (hmid : s.env.mid = []) (hpassed : s.tcu.passed = true) (h : s.clk.minute = 16777215) :
    quotePriced lane offered e r key change s = refuse .clockEnd s := by
  simp only [quotePriced, midEvent_none hmid, hpassed, Bool.not_true, Bool.false_eq_true, if_false]
  exact if_pos h

theorem quotePriced_outOfRange (hmid : s.env.mid = []) (hpassed : s.tcu.passed = true) (hminute : s.clk.minute ≠ 16777215)
    (h : 10000000 < offered) : quotePriced lane offered e r key change s = refuse .outOfRange s := by
  have hrun : ¬ s.clk.minute = Config.lastMinute := hminute
  simp only [quotePriced, midEvent_none hmid, hpassed, Bool.not_true, Bool.false_eq_true, if_false, if_neg hrun]
  exact if_pos h

theorem quotePriced_noPlan (hmid : s.env.mid = []) (hpassed : s.tcu.passed = true) (hminute : s.clk.minute ≠ 16777215)
    (hoffered : offered ≤ 10000000) (hplan : s.planAt r.plan = none) :
    quotePriced lane offered e r key change s = refuse .noPlan s := by
  have hrun : ¬ s.clk.minute = Config.lastMinute := hminute
  have hrange : ¬ Config.maxCents < offered := Nat.not_lt.mpr hoffered
  simp only [quotePriced, midEvent_none hmid, hpassed, Bool.not_true, Bool.false_eq_true, if_false, if_neg hrun, if_neg hrange, hplan]

theorem quotePriced_refused {p : Plan} {st : Status} (hmid : s.env.mid = []) (hpassed : s.tcu.passed = true)
    (hminute : s.clk.minute ≠ 16777215) (hoffered : offered ≤ 10000000) (hplan : s.planAt r.plan = some p)
    (h : computeCredit r p offered (if s.restrictedMode then some s.flt.cap else none) = .error st) :
    quotePriced lane offered e r key change s = refuse st s := by
  have hrun : ¬ s.clk.minute = Config.lastMinute := hminute
  have hrange : ¬ Config.maxCents < offered := Nat.not_lt.mpr hoffered
  simp only [quotePriced, midEvent_none hmid, hpassed, Bool.not_true, Bool.false_eq_true, if_false, if_neg hrun, if_neg hrange, hplan, h]

/-- The quote opened once its shadow version is written (R74). -/
def openSale (lane offered : Nat) (e : Entry) (r : Record) (key : KeyRef) (change : Option KeyRef) (f : Figures) (shadow : Nat)
    (t : State) : Served :=
  answered (Answer.ok (quotePayload (newQuote (midEvent t) lane e shadow offered f key change) (r.arrears - f.recovery)))
    (openQuote lane (newQuote (midEvent t) lane e shadow offered f key change) (midEvent t))

/-- What a sale with figures comes to: its last identifier, then the available float, then its shadow version. -/
theorem quotePriced_figured {p : Plan} {f : Figures} {final : Nat} (hmid : s.env.mid = []) (hpassed : s.tcu.passed = true)
    (hminute : s.clk.minute ≠ 16777215) (hoffered : offered ≤ 10000000) (hplan : s.planAt r.plan = some p)
    (h : computeCredit r p offered (if s.restrictedMode then some s.flt.cap else none) = .ok f)
    (hfinal : final = firstTid s.clk.minute r.lastTid + f.tokenCount change.isSome - 1) :
    quotePriced lane offered e r key change s =
      if 16777215 < final then refuse .clockEnd s
      else if s.clk.minute + 64 < final then refuse .rateLimit s
      else if s.flt.balance - s.flt.reserved < f.accepted then
        answered ⟨.floatShort, beBytes 4 (s.flt.balance - s.flt.reserved), none⟩ s
      else writeVersion (f.version s.clk.month r) s (openSale lane offered e r key change f) := by
  have hrun : ¬ s.clk.minute = Config.lastMinute := hminute
  have hrange : ¬ Config.maxCents < offered := Nat.not_lt.mpr hoffered
  subst hfinal
  simp only [quotePriced, midEvent_none hmid, hpassed, Bool.not_true, Bool.false_eq_true, if_false, if_neg hrun, if_neg hrange, hplan, h]
  rfl

end Checks

/-! ### The refusals (R71) -/

theorem exec_quote_answered {lane tag meter tender : Nat} {s g t : State} {a : Answer} (h : taken (.quote lane tag meter tender) s = some g)
    (hb : quoteBody lane meter tender g = answered a t) : exec (.quote lane tag meter tender) s = .next (finish a t) :=
  serve_answered h hb

/-- The fields of a record that the month does not touch (R4). -/
theorem rolled_keeps (r : Record) (month : Nat) : (r.rolled month).state = r.state ∧ (r.rolled month).zone = r.zone ∧
    (r.rolled month).revision = r.revision ∧ (r.rolled month).plan = r.plan ∧ (r.rolled month).lastTid = r.lastTid ∧
    (r.rolled month).arrears = r.arrears := by
  rw [rolled_eq]
  exact ⟨rfl, rfl, rfl, rfl, rfl, rfl⟩

/-! ### The quote opened (R74, R75) -/

theorem resolve_same {z : Zone} {key : KeyRef} {rev : Nat} (haction : z.action = .accept) (hkey : z.current = some key)
    (hrev : key.rev = rev) : z.resolve rev = .same key := by
  simp only [Zone.resolve, haction, hkey, hrev, if_true]

theorem resolve_due {z : Zone} {key old : KeyRef} {rev : Nat} (haction : z.action = .accept) (hkey : z.current = some key)
    (hnew : key.rev ≠ rev) (hprevious : z.previous = some old) (hrev : old.rev = rev) : z.resolve rev = .due old key := by
  simp only [Zone.resolve, haction, hkey, if_neg hnew, hprevious, hrev, if_true]

/-- A record's revision resolves to the zone's current key, or to its previous one with a key change due (R38). -/
theorem resolve_keys {z : Zone} {key : KeyRef} {change : Option KeyRef} {rev : Nat} {loaded : KeyRef → Prop} (haction : z.action = .accept)
    (hkeys : z.current = some key ∧ key.rev = rev ∧ change = none ∨
      ∃ old, z.current = some key ∧ key.rev ≠ rev ∧ z.previous = some old ∧ old.rev = rev ∧ change = some old ∧ loaded old) :
    (z.resolve rev = .same key ∧ change = none ∨ ∃ old, z.resolve rev = .due old key ∧ change = some old) ∧
      ∀ old, change = some old → loaded old := by
  obtain ⟨hcurrent, hsame, rfl⟩ | ⟨old, hcurrent, hnew, hprevious, hold, rfl, hloaded⟩ := hkeys
  · exact ⟨.inl ⟨resolve_same haction hcurrent hsame, rfl⟩, fun old h => (Option.some_ne_none old h.symm).elim⟩
  · refine ⟨.inr ⟨old, resolve_due haction hcurrent hnew hprevious hold, rfl⟩, fun k hk => ?_⟩
    cases hk
    exact hloaded

theorem quoteFlags_eq {q : Quote} (h : q.state = if q.review || q.threshold then .held else .opened) :
    quoteFlags q = (if q.clamped then 1 else 0) + (if q.restricted then 2 else 0) + (if q.state = .held then 4 else 0) := by
  unfold quoteFlags
  rw [h]
  cases q.clamped <;> cases q.restricted <;> cases q.review <;> cases q.threshold <;> rfl

theorem placeQuote_eq {lane : Nat} (q : Quote) (s : State) (h0 : lane ≠ 0) : placeQuote lane q s =
    (s.withFlt { s.flt with reserved := s.flt.reserved + q.accepted }).withQtb
      { s.qtb with quotes := put s.qtb.quotes (lane - 1) (some q), review := if q.review then .stopped lane else s.qtb.review } := by
  unfold placeQuote
  rw [setQuote_counter h0]
  cases q.review <;> rfl

theorem placeQuote_quoteAt_other {lane k : Nat} (q : Quote) (s : State) (h0 : lane ≠ 0) (hk : k ≠ lane) :
    (placeQuote lane q s).quoteAt k = s.quoteAt k := by
  have hset := quoteAt_setQuote_other (some q) s h0 hk
  rw [placeQuote_eq q s h0]
  rw [setQuote_counter h0] at hset
  exact hset

theorem placeQuote_ast {lane : Nat} (q : Quote) (s : State) (h0 : lane ≠ 0) : (placeQuote lane q s).ast = s.ast := by
  rw [placeQuote_eq q s h0]
  rfl

theorem placeQuote_lqa {lane : Nat} (q : Quote) (s : State) (h0 : lane ≠ 0) : (placeQuote lane q s).lqa = s.lqa := by
  rw [placeQuote_eq q s h0]
  rfl

theorem placeQuote_qtb {lane : Nat} (q : Quote) (s : State) (h0 : lane ≠ 0) : (placeQuote lane q s).qtb =
    { s.qtb with quotes := put s.qtb.quotes (lane - 1) (some q), review := if q.review then .stopped lane else s.qtb.review } := by
  rw [placeQuote_eq q s h0]
  rfl

/-- A slot taken and written: the state that the version stands in. -/
theorem slotWritten_eq {n t u : State} {slot : Nat} (r : Record) (htake : takeSlot n = some (slot, t)) (hu : drawWrite t = (false, u)) :
    ∃ rest, n.ast.free = slot :: rest ∧
      writeSlot slot r u = (n.withAst ⟨Store.write n.ast.slots slot r, rest⟩).withEnv u.env ∧ u.env.mid = n.env.mid := by
  obtain ⟨rest, hpool, rfl⟩ := takeSlot_some htake
  rw [drawWrite_eq] at hu
  obtain ⟨-, rfl⟩ := Prod.mk.inj hu
  exact ⟨rest, hpool, rfl, rfl⟩

/-- A sale's quote stands when no void was taken since the grant. -/
theorem openSale_stands {lane offered shadow : Nat} {e : Entry} {r : Record} {key : KeyRef} {change : Option KeyRef} {f : Figures}
    {s : State} (hmid : s.env.mid = []) (hcause : s.serving.bind (·.cause) = none) :
    openSale lane offered e r key change f shadow s =
      answered (Answer.ok (quotePayload (newQuote s lane e shadow offered f key change) (r.arrears - f.recovery)))
        (placeQuote lane (newQuote s lane e shadow offered f key change) s) := by
  rw [openSale, midEvent_none hmid, openQuote_stands hcause]

/-- The record a sale's shadow version holds (R66). -/
theorem version_rolled (f : Figures) (r : Record) (month paid : Nat) (hpaid : f.paid = decide (0 < paid)) :
    f.version month (r.rolled month) = { r with
      stamp := month
      units := (if r.stamp < month then 0 else r.units) + f.energy
      fixed := decide (0 < paid) || (r.fixed && decide (month ≤ r.stamp))
      taken := decide (0 < f.free) || (r.taken && decide (month ≤ r.stamp))
      arrears := r.arrears - f.recovery
      carry := f.carryOut } := by
  rw [rolled_eq, Figures.version, hpaid]

/-- A new quote's entry, field by field (R69, R74, R93). -/
theorem newQuote_eq (s : State) (lane : Nat) (e : Entry) (shadow offered : Nat) (f : Figures) (key : KeyRef) (change : Option KeyRef) :
    newQuote s lane e shadow offered f key change =
      { lane := lane, meter := e.meter, live := e.slot, shadow := shadow, offered := offered, accepted := f.accepted, fixed := f.fixed
        recovery := f.recovery, energy := f.energy, free := f.free, clamped := f.clamped, restricted := f.restricted
        change := change, key := key, count := f.tokenCount change.isSome, month := s.clk.month, generation := s.ttb.generation
        leaseMinute := min (s.clk.minute * 60 + s.clk.second + s.flt.lease) (16777215 * 60 + 59) / 60
        leaseSecond := min (s.clk.minute * 60 + s.clk.second + s.flt.lease) (16777215 * 60 + 59) % 60
        state := if s.qtb.review = .pending ∨ 0 < s.qtb.threshold ∧ s.qtb.threshold ≤ f.accepted then .held else .opened
        review := decide (s.qtb.review = .pending)
        threshold := decide (0 < s.qtb.threshold ∧ s.qtb.threshold ≤ f.accepted) } := by
  simp only [newQuote, Bool.or_eq_true, decide_eq_true_eq]
  rfl

theorem newQuote_payload {s : State} {lane : Nat} {e : Entry} {shadow offered arrears : Nat} {f : Figures} {key : KeyRef}
    {change : Option KeyRef} {q : Quote} (hq : q = newQuote s lane e shadow offered f key change) : quotePayload q arrears =
      fieldBytes [(5, e.meter), (4, offered), (4, f.accepted), (4, f.fixed), (4, f.recovery), (4, arrears), (2, f.energy),
        (2, f.free), (1, (change.map (·.rev)).getD 0xFF), (1, if change.isSome then key.rev else 0xFF),
        (1, f.tokenCount change.isSome), (3, q.leaseMinute), (1, q.leaseSecond),
        (1, (if f.clamped then 1 else 0) + (if f.restricted then 2 else 0) + (if q.state = .held then 4 else 0)),
        (1, (if q.review then 1 else 0) + (if q.threshold then 2 else 0)), (2, s.clk.month), (2, s.ttb.generation)] := by
  have hstate : q.state = if q.review || q.threshold then .held else .opened := by rw [hq]; rfl
  have hrevision : orFF (change.map fun _ => key.rev) = if change.isSome then key.rev else 0xFF := by cases change <;> rfl
  rw [quotePayload, quoteFlags_eq hstate, quoteTag_eq]
  subst hq
  rw [← hrevision]
  rfl

/-- What placing a sale's quote makes of the state with its shadow version written: the lane's entry and the review counter, the reserved
amount, and nothing else (R74). -/
theorem placed_frame {lane slot : Nat} {q : Quote} {g w : State} {l : Lqa} {r : Record} {rest : List Nat} {v : Env}
    (hw : w = ((g.withLqa l).withAst ⟨Store.write g.ast.slots slot r, rest⟩).withEnv v) (h0 : lane ≠ 0)
    (hreview : q.review = decide (g.qtb.review = .pending)) :
    (placeQuote lane q w).qtb = { g.qtb with
      quotes := put g.qtb.quotes (lane - 1) (some q), review := if g.qtb.review = .pending then .stopped lane else g.qtb.review } ∧
    (placeQuote lane q w).ast = ⟨Store.write g.ast.slots slot r, rest⟩ ∧ (placeQuote lane q w).lqa = l ∧
    placeQuote lane q w = ((((g.withLqa l).withAst (placeQuote lane q w).ast).withQtb (placeQuote lane q w).qtb).withFlt
      { g.flt with reserved := g.flt.reserved + q.accepted }).withEnv v := by
  subst hw
  refine ⟨?_, placeQuote_ast q _ h0, placeQuote_lqa q _ h0, ?_⟩
  · rw [placeQuote_qtb q _ h0, hreview]
    simp only [decide_eq_true_eq]
    rfl
  · rw [placeQuote_ast q _ h0, placeQuote_qtb q _ h0, placeQuote_eq q _ h0]
    rfl

/-- Settles O31. -/
theorem quoteOpens : Obligations.QuoteOpens := by
  refine ⟨fun lane tag meter tender slot s g t u e r key change p f first ht hmid hfree he hmark hmeter hr hgood hactive hidle haccept
    hkeys hloaded hpassed hminute hin hplanned hf hfirst hends hahead hcovered htake hu hwf => ?_,
    fun lane tag meter tender s g n ht hmid hn => ?_⟩
  · obtain ⟨h0, h8⟩ := taken_quote_lane ht
    obtain ⟨_, _, _, hserving⟩ := taken_serving ht
    have hcause : g.serving.bind (·.cause) = none := by rw [hserving]; rfl
    obtain ⟨l, hn⟩ : ∃ l, g.withLqa l = setNote lane .none g := ⟨_, (setNote_eq lane .none g).symm⟩
    have hnote := noteAt_setNote_same .none g h0 h8
    have hnotes (k : Nat) (hk : k ≠ lane) := noteAt_setNote_other .none g hk
    rw [← hn] at htake hnote hnotes ⊢
    subst hr hmeter
    have hsells : (g.zoneAt (g.record e.slot).zone).action ≠ .embargo := by rw [haccept]; decide
    have hfound := quoteBody_good (offered := tender) hn hmid hfree (findRecord_good he hmark hgood)
    obtain ⟨hstate, hzone, hrev, hplan, hlast, harrears⟩ := rolled_keeps (g.record e.slot) g.clk.month
    have hrolled : (g.withLqa l).record e.slot = g.record e.slot := rfl
    rw [hrolled, State.withLqa_clk] at hfound
    have hversion := version_rolled f (g.record e.slot) g.clk.month _ (computeCredit_paid hf)
    rw [← hversion]
    rw [← hzone, ← hrev] at hkeys
    rw [← hzone] at hsells haccept
    rw [← hstate] at hactive
    rw [← hplan] at hplanned
    rw [← hlast, ← firstTid_eq] at hfirst
    rw [← harrears]
    generalize (g.record e.slot).rolled g.clk.month = rr at *
    obtain ⟨hresolved, hslots⟩ := resolve_keys (loaded := fun old => (g.slotAt old.slot).isLoaded = true) haccept hkeys
    have hpriced := (hfound.trans (quoteFound_keyed hactive hidle hsells hresolved)).trans
      (quoteKeyed_loaded hmid (unloaded_none hloaded hslots))
    have hfigured := hpriced.trans (quotePriced_figured hmid hpassed hminute hin hplanned hf rfl)
    rw [State.withLqa_clk, ← hfirst, if_neg (Nat.not_lt.mpr hends), if_neg (Nat.not_lt.mpr hahead)] at hfigured
    have hopened := (hfigured.trans (if_neg (Nat.not_lt.mpr hcovered))).trans (writeVersion_written _ htake hu)
    obtain ⟨rest, hpool, hwritten, hcalm⟩ := slotWritten_eq (f.version g.clk.month rr).sealed htake hu
    generalize writeSlot slot (f.version g.clk.month rr).sealed u = w at hopened hwritten
    have hclk : w.clk = g.clk := by rw [hwritten]; rfl
    have httb : w.ttb = g.ttb := by rw [hwritten]; rfl
    have hflt : w.flt = g.flt := by rw [hwritten]; rfl
    have hqtb : w.qtb = g.qtb := by rw [hwritten]; rfl
    have hmidw : w.env.mid = [] := by rw [hwritten]; exact hcalm.trans hmid
    have hcausew : w.serving.bind (·.cause) = none := by rw [hwritten]; exact hcause
    rw [openSale_stands hmidw hcausew] at hopened
    obtain ⟨q, hq⟩ : ∃ q, q = newQuote w lane e slot tender f key change := ⟨_, rfl⟩
    have hentry := hq.trans (newQuote_eq w lane e slot tender f key change)
    have hpayload := newQuote_payload (arrears := rr.arrears - f.recovery) hq
    rw [hclk, httb, hflt, hqtb] at hentry
    rw [hclk, httb] at hpayload
    rw [← hq, hpayload] at hopened
    have haccepted : q.accepted = f.accepted := by rw [hentry]
    obtain ⟨hqtbv, hastv, hlqav, hframe⟩ := placed_frame (q := q) hwritten h0 (by rw [hentry])
    have hrecord (k : Nat) : (placeQuote lane q w).record k =
        Store.read (Store.write g.ast.slots slot (f.version g.clk.month rr).sealed) k := by
      rw [State.record, hastv]
    have hnoted (k : Nat) : (placeQuote lane q w).noteAt k = (g.withLqa l).noteAt k := by
      rw [State.noteAt, hlqav]
      rfl
    rw [haccepted] at hframe
    refine ⟨placeQuote lane q w, q, exec_quote_answered ht hopened, placeQuote_quoteAt h0 h8, fun k _ hne => ?_, hentry, ?_,
      (hrecord slot).trans (Store.read_write_same _ _ hwf), fun k hk => (hrecord k).trans (Store.read_write_other _ hk), ?_, ?_,
      (hnoted lane).trans hnote, fun k hk => (hnoted k).trans (hnotes k hk), ?_, hframe⟩
    · rw [placeQuote_quoteAt_other q w h0 hne, quoteAt_of_qtb hqtb]
    · rw [hqtbv]
    · rw [hqtbv]
    · rw [hqtbv]
    · rw [hastv]
      exact hpool
  · obtain ⟨l, hframe⟩ : ∃ l, n = g.withLqa l := ⟨_, hn.trans (setNote_eq lane .none g)⟩
    subst hframe
    refine ⟨fun hopen => exec_quote_answered ht (quoteBody_open hn hmid hopen), fun hfree =>
      ⟨fun hno => exec_quote_answered ht (quoteBody_missing hn hmid hfree (findRecord_missing hno)), fun e r he hr =>
        ⟨fun hmark => exec_quote_answered ht (quoteBody_bad hn hmid hfree (findRecord_quarantined he hmark)), fun hmark hbad =>
          exec_quote_answered ht (quoteBody_bad hn hmid hfree (findRecord_unsound he hmark (by rw [← hr] at hbad; exact hbad))),
          fun hmark hgood => ?_⟩⟩⟩
    subst hr
    have hfound := quoteBody_good (offered := tender) hn hmid hfree (findRecord_good he hmark hgood)
    obtain ⟨hstate, hzone, hrev, hplan, hlast, -⟩ := rolled_keeps (g.record e.slot) g.clk.month
    rw [← hstate, ← hzone, ← hrev, ← hplan, ← hlast]
    have hrolled : (g.withLqa l).record e.slot = g.record e.slot := rfl
    rw [hrolled, State.withLqa_clk] at hfound
    generalize (g.record e.slot).rolled g.clk.month = r at *
    refine ⟨fun hsuspended => exec_quote_answered ht (hfound.trans (quoteFound_suspended hsuspended)), fun hactive =>
      ⟨fun hbusy => exec_quote_answered ht (hfound.trans (quoteFound_busy hactive hbusy)), fun hidle =>
        ⟨fun hembargo => exec_quote_answered ht (hfound.trans (quoteFound_embargo hactive hidle hembargo)), fun hsells =>
          ⟨fun hstranded => exec_quote_answered ht (hfound.trans (quoteFound_stranded hactive hidle hsells hstranded)),
            fun key change hkeys => ?_⟩⟩⟩⟩
    have hkeyed := hfound.trans (quoteFound_keyed hactive hidle hsells hkeys)
    refine ⟨fun hempty => exec_quote_answered ht (hkeyed.trans (quoteKeyed_unloaded hmid (unloaded_key hempty))),
      fun old hchange hloaded hempty => exec_quote_answered ht (hkeyed.trans (quoteKeyed_unloaded hmid ?_)), fun hloaded hold => ?_⟩
    · rw [hchange]
      exact unloaded_change hloaded hempty
    have hpriced := hkeyed.trans (quoteKeyed_loaded hmid (unloaded_none hloaded hold))
    refine ⟨fun hfailed => exec_quote_answered ht (hpriced.trans (quotePriced_unsound hmid hfailed)), fun hpassed =>
      ⟨fun hend => exec_quote_answered ht (hpriced.trans (quotePriced_clockEnd hmid hpassed hend)), fun hminute =>
        ⟨fun hout => exec_quote_answered ht (hpriced.trans (quotePriced_outOfRange hmid hpassed hminute hout)), fun hin =>
          ⟨fun hno => exec_quote_answered ht (hpriced.trans (quotePriced_noPlan hmid hpassed hminute hin hno)), fun p hp =>
            ⟨fun st hst => exec_quote_answered ht (hpriced.trans (quotePriced_refused hmid hpassed hminute hin hp hst)),
              fun f final hf hfinal => ?_⟩⟩⟩⟩⟩
    rw [← firstTid_eq] at hfinal
    have hfigured := hpriced.trans (quotePriced_figured hmid hpassed hminute hin hp hf hfinal)
    refine ⟨fun hlate => exec_quote_answered ht (hfigured.trans (if_pos hlate)), fun hends hlate => ?_, fun hends hahead =>
      ⟨fun hshort => ?_, fun w hcovered hpool hw => ?_⟩⟩
    · rw [if_neg (Nat.not_lt.mpr hends)] at hfigured
      exact exec_quote_answered ht (hfigured.trans (if_pos hlate))
    · rw [if_neg (Nat.not_lt.mpr hends)] at hfigured
      exact exec_quote_answered ht ((hfigured.trans (if_neg (Nat.not_lt.mpr hahead))).trans (if_pos hshort))
    · rw [if_neg (Nat.not_lt.mpr hends)] at hfigured
      exact exec_quote_answered ht (((hfigured.trans (if_neg (Nat.not_lt.mpr hahead))).trans (if_neg (Nat.not_lt.mpr hcovered))).trans
        (writeVersion_unwritten _ hpool hw))

end Sys2Proof.Machine.QuoteOpening

/-! ## REPRINT and VERIFY: O37 and O38 -/

namespace Sys2Proof.Machine.IssuedTokens

open Sys2Proof Sys2Proof.Machine Sys2Proof.Machine.Quotes Sys2Proof.Machine.RecordRequests Sys2Proof.Machine.QuoteOpening

theorem isLoaded_of_sound {s : State} {slot : Nat} {k : Block} (h : s.sound slot k) : (s.slotAt slot).isLoaded = true := by
  rw [show s.slotAt slot = .loaded k (checkValue k) from h]
  rfl

/-! ### REPRINT (R108 to R111) -/

theorem exec_reprint_answered {lane tag meter : Nat} {s g t : State} {a : Answer} (h : taken (.reprint lane tag meter) s = some g)
    (hb : reprintBody meter g = answered a t) : exec (.reprint lane tag meter) s = .next (finish a t) :=
  serve_answered h hb

theorem reprintBody_good {meter : Nat} {s : State} {e : Entry} {r : Record} (he : s.dir.lookup meter = some e)
    (hmark : e.quarantined = false) (hr : s.record e.slot = r) (hgood : r.intact = true) :
    reprintBody meter s = reprintFound meter r s := by
  subst hr
  simp only [reprintBody, findRecord_good he hmark hgood]

/-- The slots the zone now names for the revisions of a last issue (R109). -/
theorem reprintFound_keyed {meter : Nat} {r : Record} {s : State} {i : LastIssue} {key : KeyRef} {change : Option KeyRef}
    (hissue : r.issue = some i)
    (hkeys : i.change = none ∧ (s.zoneAt r.zone).keyFor r.revision = some key ∧ change = none ∨
      ∃ c old, i.change = some c ∧ (s.zoneAt r.zone).keyFor c.toRev = some key ∧ (s.zoneAt r.zone).keyFor c.fromRev = some old ∧
        change = some old) : reprintFound meter r s = reprintKeyed meter r i key change s := by
  obtain ⟨hno, hkey, rfl⟩ | ⟨c, old, hc, hkey, hold, rfl⟩ := hkeys
  · simp only [reprintFound, hissue, hno, hkey]
  · simp only [reprintFound, hissue, hc, hkey, hold]

/-- Settles O37: the zone's slots for the set's revisions, then `formSet_sound`. -/
theorem reprintRebuilds : Obligations.ReprintRebuilds := by
  refine ⟨fun lane tag meter s g ht => ⟨fun hno => exec_reprint_answered ht ?_, fun e he => ⟨fun hmark => exec_reprint_answered ht ?_,
    fun hmark hbad => exec_reprint_answered ht ?_⟩⟩, fun lane tag meter s g e r ht he hmark hr hgood => ⟨fun hno => ?_,
      fun i key base toKey fromKey parts n hissue hbase hto hfrom hparts hcalm => ?_⟩⟩
  · simp only [reprintBody, findRecord_missing hno]
    rfl
  · simp only [reprintBody, findRecord_quarantined he hmark]
    rfl
  · simp only [reprintBody, findRecord_unsound he hmark hbad]
    rfl
  · refine exec_reprint_answered ht ((reprintBody_good he hmark hr hgood).trans ?_)
    simp only [reprintFound, hno]
    rfl
  · have ⟨hpassed, _, _⟩ := hcalm
    obtain ⟨change, hkeys, hold, hfrom'⟩ : ∃ change,
        (i.change = none ∧ (g.zoneAt r.zone).keyFor r.revision = some key ∧ change = none ∨
          ∃ c old, i.change = some c ∧ (g.zoneAt r.zone).keyFor c.toRev = some key ∧ (g.zoneAt r.zone).keyFor c.fromRev = some old ∧
            change = some old) ∧
        (∀ old, change = some old → (g.slotAt old.slot).isLoaded = true) ∧
        (change = none ∧ fromKey = toKey ∧ n = 2 ∨
          ∃ old base', change = some old ∧ g.sound old.slot base' ∧ fromKey = meterKey base' meter old.rev (g.zoneAt r.zone).group ∧
            n = 4) := by
      obtain ⟨hno, hkey, hsame, hn⟩ | ⟨c, old, base', hc, hkey, hold, hbase', hfrom, hn⟩ := hfrom
      · exact ⟨none, .inl ⟨hno, hkey, rfl⟩, fun _ h => (Option.some_ne_none _ h.symm).elim, .inl ⟨rfl, hsame, hn⟩⟩
      · refine ⟨some old, .inr ⟨c, old, hc, hkey, hold, rfl⟩, fun k hk => ?_, .inr ⟨old, base', rfl, hbase', hfrom, hn⟩⟩
        cases hk
        exact isLoaded_of_sound hbase'
    have hkeyed := (reprintBody_good he hmark hr hgood).trans (reprintFound_keyed hissue hkeys)
    subst hparts
    have hformed := formSet_sound (tid := i.firstTid) hbase hto hfrom' hcalm
    refine exec_reprint_answered ht (hkeyed.trans ?_)
    simp only [reprintKeyed, unloaded_none (isLoaded_of_sound hbase) hold, hpassed, Bool.not_true, Bool.false_eq_true, if_false, hformed,
      Res.served]
    rfl

/-! ### VERIFY (R112 to R114) -/

theorem exec_verify_answered {lane tag meter token : Nat} {s g t : State} {a : Answer} (h : taken (.verify lane tag meter token) s = some g)
    (hb : verifyBody meter token g = answered a t) : exec (.verify lane tag meter token) s = .next (finish a t) :=
  serve_answered h hb

/-- One attempt: two uses for the meter key, one for the token (R113). -/
theorem attempt_sound {s : State} {zone meter : Nat} {k : KeyRef} {base token : Block} (hk : s.sound k.slot base) (h : s.calm 3) :
    attempt zone meter k token s =
      .ok (readToken (decipher (meterKey base meter k.rev (s.zoneAt zone).group) token)) (s.used 3) := by
  have hderive : s.calm 2 := State.calm_less h (by decide)
  have hdecipher : (s.used 2).calm 1 := State.calm_used h
  simp only [attempt, deriveKey_sound hk hderive, Res.andThen, plainUse_calm hdecipher, State.used_used]

theorem reported_eq (d : Decoded) :
    d.reported = if d.cls = .keyPart then d.payload / 2 ^ 18 * 2 ^ 18 + d.payload % 4 else d.payload := by
  unfold Decoded.reported
  cases d.cls <;> rfl

/-- VERIFY's reply on a token that decoded. -/
theorem verifyPayload_found (s : State) (meter : Nat) (last : Option Nat) (first rev : Nat) (second : Option Nat) (d : Decoded) :
    verifyPayload s meter last first second false (some (d, rev)) =
      fieldBytes [(5, meter), (1, first), (1, second.getD 0xFF), (1, 0), (1, 1), (1, d.cls.code), (3, d.tid),
        (3, if d.cls = .keyPart then d.payload / 2 ^ 18 * 2 ^ 18 + d.payload % 4 else d.payload), (1, rev),
        (1, if last.all (fun n => decide (n < d.tid)) then 1 else 0)] := by
  rw [← reported_eq]
  simp only [verifyPayload, fieldBytes, List.flatMap_cons, List.flatMap_nil, List.append_assoc, List.nil_append]
  rfl

/-- VERIFY's reply on a token that did not decode: the bytes left open follow the free values read so far. -/
theorem verifyPayload_none {s g : State} (hreads : s.freeReads = g.freeReads) (meter : Nat) (last : Option Nat) (first : Nat)
    (second : Option Nat) (passedOver : Bool) : verifyPayload s meter last first second passedOver none =
      fieldBytes [(5, meter), (1, first), (1, second.getD 0xFF), (1, bit passedOver), (1, 0)] ++ openBytes g 9 7 ++ [0xFF] ++
        openBytes g 17 1 := by
  have hopen (off n : Nat) : openBytes s off n = openBytes g off n := by rw [openBytes, hreads, openBytes]
  simp only [verifyPayload, hopen, List.append_assoc]
  rfl

theorem verifyBody_good {meter token : Nat} {s : State} {e : Entry} {r : Record} (he : s.dir.lookup meter = some e)
    (hmark : e.quarantined = false) (hr : s.record e.slot = r) (hgood : r.intact = true) :
    verifyBody meter token s = verifyFound meter r (BitVec.ofNat 64 token) s := by
  subst hr
  simp only [verifyBody, findRecord_good he hmark hgood]

/-- The first attempt, at the record's revision, decodes. -/
theorem verifyFound_decoded {meter : Nat} {r : Record} {token base : Block} {s : State} {key : KeyRef} {d : Decoded}
    (hkey : (s.zoneAt r.zone).keyFor r.revision = some key) (hbase : s.sound key.slot base) (hcalm : s.calm 3)
    (hread : readToken (decipher (meterKey base meter key.rev (s.zoneAt r.zone).group) token) = some d) :
    verifyFound meter r token s =
      answered (Answer.ok (verifyPayload (s.used 3) meter r.lastTid r.revision none false (some (d, r.revision)))) (s.used 3) := by
  have ⟨hpassed, _, _⟩ := hcalm
  simp only [verifyFound, hkey, isLoaded_of_sound hbase, Bool.not_true, Bool.false_eq_true, if_false, hpassed, attempt_sound hbase hcalm,
    hread, Res.served]

/-- The first attempt does not decode: the second is made. -/
theorem verifyFound_undecoded {meter : Nat} {r : Record} {token base : Block} {s : State} {key : KeyRef}
    (hkey : (s.zoneAt r.zone).keyFor r.revision = some key) (hbase : s.sound key.slot base) (hcalm : s.calm 3)
    (hread : readToken (decipher (meterKey base meter key.rev (s.zoneAt r.zone).group) token) = none) :
    verifyFound meter r token s = verifySecond meter r token (s.used 3) := by
  have ⟨hpassed, _, _⟩ := hcalm
  simp only [verifyFound, hkey, isLoaded_of_sound hbase, Bool.not_true, Bool.false_eq_true, if_false, hpassed, attempt_sound hbase hcalm,
    hread, Res.served]

theorem verifySecond_same {meter : Nat} {r : Record} {token : Block} {s : State}
    (h : ((s.zoneAt r.zone).previous.all fun old => decide (old.rev = r.revision)) = true) :
    verifySecond meter r token s = answered (Answer.ok (verifyPayload s meter r.lastTid r.revision none false none)) s := by
  unfold verifySecond
  split
  · rename_i old hold
    rw [hold, Option.all_some, decide_eq_true_eq] at h
    rw [if_pos h]
  · rfl

theorem verifySecond_passedOver {meter : Nat} {r : Record} {token : Block} {s : State} {old : KeyRef}
    (hold : (s.zoneAt r.zone).previous = some old) (hrev : old.rev ≠ r.revision) (hempty : (s.slotAt old.slot).isLoaded = false) :
    verifySecond meter r token s = answered (Answer.ok (verifyPayload s meter r.lastTid r.revision none true none)) s := by
  simp only [verifySecond, hold, if_neg hrev, hempty, Bool.false_eq_true, if_false]

theorem verifySecond_tried {meter : Nat} {r : Record} {token base : Block} {s : State} {old : KeyRef}
    (hold : (s.zoneAt r.zone).previous = some old) (hrev : old.rev ≠ r.revision) (hbase : s.sound old.slot base) (hcalm : s.calm 3) :
    verifySecond meter r token s = answered (Answer.ok (verifyPayload (s.used 3) meter r.lastTid r.revision (some old.rev) false
      ((readToken (decipher (meterKey base meter old.rev (s.zoneAt r.zone).group) token)).map fun x => (x, old.rev)))) (s.used 3) := by
  simp only [verifySecond, hold, if_neg hrev, isLoaded_of_sound hbase, if_true, attempt_sound hbase hcalm, Res.served]

/-- Settles O38: the first attempt, then what the zone's previous revision adds to it. -/
theorem verifyDecodes : Obligations.VerifyDecodes := by
  refine ⟨fun lane tag meter token s g ht => ⟨fun hno => exec_verify_answered ht ?_, fun e he => ⟨fun hmark =>
    exec_verify_answered ht ?_, fun hmark hbad => exec_verify_answered ht ?_⟩⟩,
    fun lane tag meter token s g e r key base ht he hmark hr hgood hkey hbase => ?_⟩
  · simp only [verifyBody, findRecord_missing hno]
    rfl
  · simp only [verifyBody, findRecord_quarantined he hmark]
    rfl
  · simp only [verifyBody, findRecord_unsound he hmark hbad]
    rfl
  have hfound := verifyBody_good (token := token) he hmark hr hgood
  refine ⟨fun d hcalm hread => ?_, fun old base' d hcalm hold hrev hbase' hread hread' => ?_, fun hread =>
    ⟨openBytes g 9 7, openBytes g 17 1, openBytes_length g 9 7, openBytes_length g 17 1, fun hcalm hsame => ?_,
      fun old hcalm hold hrev hempty => ?_, fun old base' hcalm hold hrev hbase' hread' => ?_⟩⟩
  · have hfirst := hfound.trans (verifyFound_decoded hkey hbase hcalm hread)
    rw [verifyPayload_found] at hfirst
    exact exec_verify_answered ht hfirst
  · have hfirst := hfound.trans (verifyFound_undecoded hkey hbase (State.calm_less hcalm (by decide)) hread)
    have hsecond := hfirst.trans (verifySecond_tried (s := g.used 3) hold hrev hbase' (State.calm_used hcalm))
    have hread'' : readToken (decipher (meterKey base' meter old.rev ((g.used 3).zoneAt r.zone).group) (BitVec.ofNat 64 token)) = some d :=
      hread'
    rw [hread'', Option.map_some, verifyPayload_found, State.used_used] at hsecond
    exact exec_verify_answered ht hsecond
  · have hfirst := hfound.trans (verifyFound_undecoded hkey hbase hcalm hread)
    have hsecond := hfirst.trans (verifySecond_same (s := g.used 3) hsame)
    rw [verifyPayload_none (s := g.used 3) (g := g) rfl] at hsecond
    exact exec_verify_answered ht hsecond
  · have hfirst := hfound.trans (verifyFound_undecoded hkey hbase hcalm hread)
    have hsecond := hfirst.trans (verifySecond_passedOver (s := g.used 3) hold hrev hempty)
    rw [verifyPayload_none (s := g.used 3) (g := g) rfl] at hsecond
    exact exec_verify_answered ht hsecond
  · have hfirst := hfound.trans (verifyFound_undecoded hkey hbase (State.calm_less hcalm (by decide)) hread)
    have hsecond := hfirst.trans (verifySecond_tried (s := g.used 3) hold hrev hbase' (State.calm_used hcalm))
    have hread'' : readToken (decipher (meterKey base' meter old.rev ((g.used 3).zoneAt r.zone).group) (BitVec.ofNat 64 token)) = none :=
      hread'
    rw [hread'', Option.map_none, verifyPayload_none (s := (g.used 3).used 3) (g := g) rfl, State.used_used] at hsecond
    exact exec_verify_answered ht hsecond

end Sys2Proof.Machine.IssuedTokens

/-! ## Start-up and the loss of supply: O54 -/

namespace Sys2Proof.Machine.StartUpWork

open Sys2Proof Sys2Proof.Machine Sys2Proof.Machine.KeysAndLock Sys2Proof.Machine.TariffAndClock Sys2Proof.Machine.Directory
  Sys2Proof.Machine.LanesAndArbiter Sys2Proof.Machine.VoidedQuotes

/-! ### A part without supply (R84) -/

theorem nextLane_of_notRunning {s : State} (h : s.running = false) : s.nextLane = none := by
  simp only [State.nextLane, h, Bool.false_and, Bool.false_eq_true, if_false]

theorem running_off {s : State} (h : s.supply = false) : s.running = false := by
  rw [State.running, h, Bool.false_and]

theorem running_held {s : State} (h : s.startUp ≠ .done) : s.running = false := by
  rw [State.running, decide_eq_false h, Bool.and_false]

theorem grantTo_off {s : State} (h : s.supply = false) (lane : Nat) (r : Request) : grantTo lane r s = none := by
  cases hg : grantTo lane r s with
  | none => rfl
  | some g =>
    obtain ⟨t, rest, ht, -, hnext, -⟩ := grantTo_some hg
    have hoff : t.supply = false := by
      rw [ht]
      split <;> exact h
    rw [nextLane_of_notRunning (running_off hoff)] at hnext
    cases hnext

/-- No command but a power-on reset brings supply back. -/
theorem exec_off {c : Instr} {s t : State} (hoff : s.supply = false) (hc : c ≠ .powerOnReset) (h : exec c s = .next t) :
    t.supply = false := by
  cases hrequest : c.request with
  | some x =>
    obtain ⟨body, hserve⟩ := exec_request hrequest s
    rw [hserve, serve_waits body hrequest (grantTo_off hoff _ _)] at h
    cases h
    exact hoff
  | none =>
    have hdeaf : s.receiving = false := by simp only [State.receiving, hoff, Bool.false_and]
    have hidle {f : State → State} (hf : powered s f = .next t) : t.supply = false := by
      rw [powered_off f hoff] at hf
      cases hf
      exact hoff
    cases c with
    | powerOnReset => exact absurd rfl hc
    | frameReceived | characterReceived =>
      cases h
      rw [hdeaf]
      exact hoff
    | tamperZeroise =>
      rw [exec_tamperZeroise_eq, hoff, assertTamper_off hoff] at h
      cases h
      exact hoff
    | supplyLoss =>
      cases h
      rfl
    | tamperReleased | clockSecond =>
      cases h
      exact hoff
    | clockEnd =>
      cases h
      split <;> exact hoff
    | interByteTimeout =>
      unfold exec execInterByteTimeout at h
      exact hidle h
    | linkAnswerPlaced =>
      unfold exec execLinkAnswerPlaced at h
      exact hidle h
    | receiveWireReturnsHigh =>
      unfold exec execReceiveWireReturnsHigh at h
      exact hidle h
    | replySent | linkBreak | leaseExpiry | deadlineExpiry | monthRoll
    | monthRollRetry | enrolMoveStep | placingStep | retireMoveStep | closingStep | keyEraseRetry | zeroiseRetry => exact hidle h
    | _ => cases hrequest

/-! ### A zeroise of a part without quotes -/

theorem voidAll_quoteless {s : State} (note : Note) (h : ∀ k, s.quoteAt k = none) : voidAll note s = s := by
  have hlane (k : Nat) : voidWaiting note k s = s := by simp only [voidWaiting, h k]
  have hfold (ks : List Nat) : ks.foldl (fun t k => voidWaiting note k t) s = s := by
    induction ks with
    | nil => rfl
    | cons k ks ih => rw [List.foldl_cons, hlane, ih]
  exact hfold counterLanes

theorem strike_quoteless {s : State} (note : Note) (h : ∀ k, s.quoteAt k = none) (hserving : s.serving = none) : strike note s = s := by
  rw [strike, voidAll_quoteless note h, hserving, Option.map_none, ← hserving, State.withServing_self]

theorem zeroise_quoteless {s : State} (h : ∀ k, s.quoteAt k = none) (hserving : s.serving = none) :
    zeroise s = zeroiseWrite (s.withFmn { s.fmn with zeroisePending := true }) := by
  rw [zeroise, strike_quoteless]
  · exact h
  · exact hserving

theorem powerOnValues_quoteAt (s : State) (k : Nat) : (powerOnValues s).quoteAt k = none := by
  simp only [State.quoteAt, powerOnValues, pick, Vector.getElem?_replicate]
  split
  · rfl
  · split <;> rfl

/-- What the tamper input's level makes of a part that has no quotes: a zeroise's write, or nothing (R162). -/
def afterInput (asserted : Bool) (s : State) : State :=
  (s.withZks (if asserted then { s.zks with slots := Vector.replicate 16 .erased, erasing := [] } else s.zks)).withFmn
    (if asserted then { s.fmn with zeroisePending := false, configLock := false, lockKey := 0 } else s.fmn)

theorem startZeroise_released {s : State} (h : s.tamper = false) : startZeroise s = startDirectory s := by
  simp only [startZeroise, h, Bool.false_eq_true, if_false]

theorem startZeroise_made {s t : State} (h : s.tamper = true) (hz : zeroise s = (true, t)) : startZeroise s = startDirectory t := by
  simp only [startZeroise, h, hz, if_true]

theorem startZeroise_failed {s t : State} (h : s.tamper = true) (hz : zeroise s = (false, t)) :
    startZeroise s = t.withStartUp .zeroise := by
  simp only [startZeroise, h, hz, if_true]

theorem startZeroise_noFailure {s : State} (hquotes : ∀ k, s.quoteAt k = none) (hserving : s.serving = none)
    (hw : s.env.storeFails = []) : startZeroise s = startDirectory (afterInput s.tamper s) := by
  cases htamper : s.tamper with
  | false => exact startZeroise_released htamper
  | true =>
    have hwrite := drawWrite_made (s := s.withFmn { s.fmn with zeroisePending := true }) hw
    rw [startZeroise_made htamper ((zeroise_quoteless hquotes hserving).trans (zeroiseWrite_made hwrite))]
    rfl

/-! ### A pending change completed (R15) -/

/-- The steps that a directory's pending change still has to take (R11, R12). -/
def stepsLeft (d : Dir) : Nat :=
  match d.change with
  | none => 0
  | some (.enrolling _ _ _ p c) => c - p + 1
  | some (.retiring _ _ c) => d.entries.length - c

theorem stepsLeft_le {d : Dir} (hfits : d.change.all d.fits = true) : stepsLeft d ≤ d.entries.length + 1 := by
  unfold stepsLeft
  split
  · exact Nat.zero_le _
  · rename_i m slot q p c hch
    simp only [hch, Option.all_some, Dir.fits, Bool.and_eq_true, decide_eq_true_eq] at hfits
    omega
  · omega

theorem stepsLeft_stepped {d : Dir} {ch : Change} (hch : d.change = some ch) (hfits : d.fits ch = true) :
    stepsLeft d.stepped < stepsLeft d := by
  obtain ⟨m, slot, q, p, c, rfl, hlt, hnext, -, -, -⟩ | ⟨m, slot, c, rfl, hnext, hlt, hlength, -⟩ | hdone := stepped_cases hch hfits
  · simp only [stepsLeft, hnext, hch]
    omega
  · simp only [stepsLeft, hnext, hch]
    omega
  · rw [hdone]
    cases ch with
    | enrolling m slot q p c => simp only [stepsLeft, hch, Nat.zero_lt_succ]
    | retiring m slot c =>
      simp only [Dir.fits, decide_eq_true_eq] at hfits
      simp only [stepsLeft, hch]
      omega

theorem listing_of_noChange {d : Dir} (h : d.change = none) : (⟨d.listing, none⟩ : Dir) = d := by
  obtain ⟨entries, change⟩ := d
  cases h
  rfl

/-- A step's write made: the directory stepped, and no more than the free pool beside it. -/
theorem stepMade_eq (s : State) : ∃ free, stepMade s = (s.withDir s.dir.stepped).withAst { s.ast with free := free } := by
  cases h : s.dir.released with
  | none => exact ⟨s.ast.free, stepMade_kept h⟩
  | some slot => exact ⟨slot :: s.ast.free, stepMade_released h⟩

theorem completeChange_none {s : State} (h : s.dir.change = none) (fuel : Nat) : completeChange fuel s = (true, s) := by
  cases fuel with
  | zero => simp only [completeChange, h, Option.isNone_none]
  | succ fuel => simp only [completeChange, h, Option.isNone_none, if_true]

theorem completeChange_step {s : State} (h : s.dir.change ≠ none) (hw : s.env.storeFails = []) (fuel : Nat) :
    completeChange (fuel + 1) s = completeChange fuel (stepMade s) := by
  have htry : tryStep s = (true, stepMade s) := retained_made _ _ (drawWrite_made hw)
  have hsome : ¬ s.dir.change.isNone = true := fun hn => h (Option.isNone_iff_eq_none.mp hn)
  simp only [completeChange, if_neg hsome, htry]

/-- With no write failing the change completes: the list is what LIST walks. -/
theorem completeChange_listing {fuel : Nat} {s : State} (hw : s.env.storeFails = []) (hfits : s.dir.change.all s.dir.fits = true)
    (hleft : stepsLeft s.dir ≤ fuel) : ∃ free, completeChange fuel s =
      (true, (s.withDir ⟨s.dir.listing, none⟩).withAst { s.ast with free := free }) := by
  induction fuel generalizing s with
  | zero =>
    have hnone : s.dir.change = none := by
      cases hch : s.dir.change with
      | none => rfl
      | some ch =>
        have hfits' : s.dir.fits ch = true := by simpa only [hch, Option.all_some] using hfits
        have := stepsLeft_stepped hch hfits'
        omega
    exact ⟨s.ast.free, by rw [completeChange_none hnone, listing_of_noChange hnone]; rfl⟩
  | succ fuel ih =>
    cases hch : s.dir.change with
    | none => exact ⟨s.ast.free, by rw [completeChange_none hch, listing_of_noChange hch]; rfl⟩
    | some ch =>
      have hfits' : s.dir.fits ch = true := by simpa only [hch, Option.all_some] using hfits
      obtain ⟨free, hmade⟩ := stepMade_eq s
      have hdir : (stepMade s).dir = s.dir.stepped := by rw [hmade]; rfl
      have henv : (stepMade s).env = s.env := by rw [hmade]; rfl
      have hless := stepsLeft_stepped hch hfits'
      obtain ⟨free', hcomplete⟩ := ih (s := stepMade s) (by rw [henv]; exact hw) (by rw [hdir]; exact stepped_fits hch hfits')
        (by rw [hdir]; omega)
      refine ⟨free', ?_⟩
      rw [completeChange_step (by rw [hch]; exact Option.some_ne_none ch) hw, hcomplete, hdir, stepped_listing hch hfits', hmade]
      rfl

/-! ### The free pool and the self-test (R9, R164) -/

/-- A part whose change is complete, its free pool written and its self-test passed. -/
def rebuilt (free : List Nat) (s : State) : State :=
  ((s.withDir ⟨s.dir.listing, none⟩).withAst { s.ast with free := free }).withTcu ⟨true, 0⟩

/-- The slots no entry of a list names (R9). -/
def unnamed (es : List Entry) : List Nat := (List.range Config.slotCount).filter fun n => !(Dir.mk es none).names n

theorem mem_unnamed {es : List Entry} {n : Nat} : n ∈ unnamed es ↔ n < 4096 ∧ ∀ e ∈ es, e.slot ≠ n := by
  simp only [unnamed, List.mem_filter, List.mem_range, Dir.names, Bool.not_eq_true', List.any_eq_false, beq_iff_eq]
  rfl

theorem startRebuild_sound {s : State} {free : List Nat} (htest : s.env.testFails = []) :
    startRebuild ((s.withDir ⟨s.dir.listing, none⟩).withAst { s.ast with free := free }) =
      startRoll (rebuilt (unnamed s.dir.listing) s) := by
  have hpassed := selfTest_sound (s := rebuildFree ((s.withDir ⟨s.dir.listing, none⟩).withAst { s.ast with free := free })) htest
  rw [startRebuild, hpassed]
  rfl

theorem startDirectory_unchanged {s : State} (h : s.dir.change = none) (htest : s.env.testFails = []) :
    startDirectory s = startRoll (rebuilt (unnamed s.dir.listing) s) := by
  have hrebuild := startRebuild_sound (free := s.ast.free) htest
  rw [listing_of_noChange h] at hrebuild
  simp only [startDirectory, completeChange_none h]
  exact hrebuild

theorem startDirectory_completed {s : State} (hw : s.env.storeFails = []) (htest : s.env.testFails = [])
    (hfits : s.dir.change.all s.dir.fits = true) : startDirectory s = startRoll (rebuilt (unnamed s.dir.listing) s) := by
  obtain ⟨free, hcomplete⟩ := completeChange_listing hw hfits (stepsLeft_le hfits)
  simp only [startDirectory, hcomplete, startRebuild_sound htest]

end Sys2Proof.Machine.StartUpWork

namespace Sys2Proof.Machine.StartUpWork

open Sys2Proof Sys2Proof.Machine Sys2Proof.Machine.KeysAndLock Sys2Proof.Machine.TariffAndClock Sys2Proof.Machine.Directory
  Sys2Proof.Machine.LanesAndArbiter Sys2Proof.Machine.VoidedQuotes

/-! ### Start-up's last step (R138, R139, R164) -/

theorem boundaryReached_ahead {c : Clk} (h : c.boundary.all (fun b => decide (c.minute < b)) = true) : c.boundaryReached = false := by
  cases hb : c.boundary with
  | none => exact boundaryReached_none hb
  | some b =>
    rw [hb, Option.all_some, decide_eq_true_eq] at h
    rw [boundaryReached_some hb]
    exact decide_eq_false (Nat.not_le.mpr h)

/-- With no write failing and none owed, start-up ends: the month rolled at a reached boundary, else nothing changed. -/
theorem startRoll_sound {s : State} (hw : s.env.storeFails = []) (hpending : s.fmn.zeroisePending = false) :
    ∃ clk ttb, startRoll s = ((s.withClk clk).withTtb ttb).withStartUp .done ∧
      (s.clk.boundary.all (fun b => decide (s.clk.minute < b)) = true → clk = s.clk ∧ ttb = s.ttb) ∧
      ∀ b, s.clk.boundary = some b → b ≤ s.clk.minute →
        clk = { s.clk with month := min (s.clk.month + 1) 4095, boundary := none, rollWaiting := false } ∧ ttb = rolledTtb s := by
  cases hreached : s.clk.boundaryReached with
  | false =>
    refine ⟨s.clk, s.ttb, startRoll_done hpending hreached, fun _ => ⟨rfl, rfl⟩, fun b hb hle => ?_⟩
    rw [boundaryReached_some hb, decide_eq_true hle] at hreached
    cases hreached
  | true =>
    refine ⟨{ s.clk with month := min (s.clk.month + 1) 4095, boundary := none, rollWaiting := false }, rolledTtb s, ?_, fun hahead => ?_,
      fun _ _ _ => ⟨rfl, rfl⟩⟩
    · rw [startRoll_rolls hpending hreached, rollMonth_made (drawWrite_made hw)]
      rfl
    · rw [boundaryReached_ahead hahead] at hreached
      cases hreached

theorem resumeStartUp_last {s : State} (hpending : s.fmn.zeroisePending = false) (hstart : s.startUp = .last) :
    resumeStartUp s = startRoll s := by
  simp only [resumeStartUp, hpending, Bool.false_eq_true, if_false, hstart]

/-! ### A write that fails in start-up (R155, R164) -/

/-- A STORE_WRITE that a part meets with nothing held and nothing stacked. -/
theorem arrive_first {m : Fmn} {minute : Nat} (hhold : m.hold = 0) (hstack : m.stack = []) (hlocked : m.locked = false) :
    (m.arrive .storeWrite minute).hold = 5 ∧ (m.arrive .storeWrite minute).stack = [⟨0, .storeWrite, 5⟩] := by
  obtain ⟨hold, stack, locked, latest, pending, lock, key⟩ := m
  cases hhold
  cases hstack
  cases hlocked
  exact ⟨rfl, rfl⟩

/-- A part that a failed write holds up: not started, nothing granted, STORE_WRITE stacked. -/
def HeldUp (t : State) : Prop := t.startUp ≠ .done ∧ t.nextLane = none ∧ t.fmn.hold = 5 ∧ t.fmn.stack = [⟨0, .storeWrite, 5⟩]

theorem heldUp_withStartUp {s : State} {stage : StartUp} (hstage : stage ≠ .done) (hhold : s.fmn.hold = 5)
    (hstack : s.fmn.stack = [⟨0, .storeWrite, 5⟩]) : HeldUp (s.withStartUp stage) :=
  ⟨hstage, nextLane_of_notRunning (running_held hstage), hhold, hstack⟩

theorem startDirectory_stopped {s u : State} (hchange : s.dir.change ≠ none) (hw : drawWrite s = (true, u)) :
    startDirectory s = (raise .storeWrite u).withStartUp .directory := by
  have htry : tryStep s = (false, raise .storeWrite u) := retained_failed _ _ hw
  have hsome : ¬ s.dir.change.isNone = true := fun hn => hchange (Option.isNone_iff_eq_none.mp hn)
  simp only [startDirectory, completeChange, if_neg hsome, htry]

theorem startRoll_stopped {s u : State} (hpending : s.fmn.zeroisePending = false) (hreached : s.clk.boundaryReached = true)
    (hw : drawWrite s = (true, u)) :
    startRoll s = ((raise .storeWrite u).withClk { u.clk with rollWaiting := true }).withStartUp .roll := by
  rw [startRoll_rolls hpending hreached, rollMonth_failed hw]
  rfl

/-- The first write of a start-up fails: it is the zeroise's, the change's or the roll's, whichever is the first that start-up has. -/
theorem startZeroise_heldUp {s : State} (hquotes : ∀ k, s.quoteAt k = none) (hserving : s.serving = none)
    (hfmn : s.fmn.hold = 0 ∧ s.fmn.stack = [] ∧ s.fmn.locked = false ∧ s.fmn.zeroisePending = false)
    (hw : s.env.storeFails.headD false = true) (htest : s.env.testFails = [])
    (hwork : s.tamper = true ∨ s.dir.change ≠ none ∨ s.clk.boundaryReached = true) : HeldUp (startZeroise s) := by
  obtain ⟨hhold, hstack, hlocked, hpending⟩ := hfmn
  have hfail {t : State} (henv : t.env = s.env) : drawWrite t =
      (true, t.withEnv { s.env with storeFails := s.env.storeFails.tail }) := by
    rw [drawWrite_eq, henv, hw]
  cases htamper : s.tamper with
  | true =>
    have hwrite := hfail (t := s.withFmn { s.fmn with zeroisePending := true }) rfl
    rw [startZeroise_failed htamper ((zeroise_quoteless hquotes hserving).trans (zeroiseWrite_failed hwrite))]
    obtain ⟨hhold', hstack'⟩ := arrive_first (m := { s.fmn with zeroisePending := true }) (minute := s.clk.minute) hhold hstack hlocked
    exact heldUp_withStartUp (by decide) hhold' hstack'
  | false =>
    obtain ⟨hhold', hstack'⟩ := arrive_first (minute := s.clk.minute) hhold hstack hlocked
    rw [startZeroise_released htamper]
    by_cases hchange : s.dir.change = none
    · have hreached : s.clk.boundaryReached = true := by simpa [htamper, hchange] using hwork
      rw [startDirectory_unchanged hchange htest]
      generalize unnamed s.dir.listing = free
      rw [startRoll_stopped (s := rebuilt free s) hpending hreached (hfail (t := rebuilt free s) rfl)]
      exact heldUp_withStartUp (by decide) hhold' hstack'
    · rw [startDirectory_stopped hchange (hfail rfl)]
      exact heldUp_withStartUp (by decide) hhold' hstack'

/-! ### Power-on reset, start-up and supply loss (R84, R88, R164) -/

theorem powerOnValues_review (s : State) : ∃ v, v ≤ 7 ∧ (powerOnValues s).qtb.review = .counting v :=
  ⟨_, Nat.le_of_lt_succ (Nat.mod_lt _ (by decide)), rfl⟩

theorem afterInput_powerOn (b : Bool) (s : State) :
    (afterInput b (powerOnValues s)).zks = ⟨s.zks.zones, if b then Vector.replicate 16 .erased else s.zks.slots, []⟩ ∧
      (afterInput b (powerOnValues s)).fmn = if b then ⟨0, [], false, none, false, false, 0⟩
        else ⟨0, [], false, none, false, s.fmn.configLock, s.fmn.lockKey⟩ := by
  cases b with
  | false => exact ⟨rfl, rfl⟩
  | true => exact ⟨rfl, rfl⟩

theorem boundaryReached_before {c : Clk} (h : ∀ b, c.boundary = some b → c.minute < b) : c.boundaryReached = false := by
  cases hb : c.boundary with
  | none => exact boundaryReached_none hb
  | some b =>
    rw [boundaryReached_some hb]
    exact decide_eq_false (Nat.not_le.mpr (h b hb))

theorem listing_entries {d : Dir} (h : d.change = none) : d.listing = d.entries :=
  congrArg Dir.entries (listing_of_noChange h)

/-- A start-up with nothing to do but the free pool and the self-test. -/
theorem startZeroise_quiet {s : State} (htamper : s.tamper = false) (hchange : s.dir.change = none) (htest : s.env.testFails = [])
    (hpending : s.fmn.zeroisePending = false) (hreached : s.clk.boundaryReached = false) :
    ∃ free, (∀ n, n ∈ free ↔ n < 4096 ∧ ∀ e ∈ s.dir.listing, e.slot ≠ n) ∧ startZeroise s = (rebuilt free s).withStartUp .done := by
  refine ⟨unnamed s.dir.listing, fun n => mem_unnamed, ?_⟩
  rw [startZeroise_released htamper, startDirectory_unchanged hchange htest]
  generalize unnamed s.dir.listing = free
  exact startRoll_done hpending hreached

theorem afterInput_keeps (b : Bool) (s : State) : (afterInput b s).env = s.env ∧ (afterInput b s).clk = s.clk ∧
    (afterInput b s).ttb = s.ttb ∧ (afterInput b s).dir = s.dir := ⟨rfl, rfl, rfl, rfl⟩

theorem rebuilt_keeps (free : List Nat) (s : State) : (rebuilt free s).env = s.env ∧ (rebuilt free s).clk = s.clk ∧
    (rebuilt free s).ttb = s.ttb ∧ (rebuilt free s).fmn = s.fmn := ⟨rfl, rfl, rfl, rfl⟩

theorem afterInput_pending {s : State} (b : Bool) (h : s.fmn.zeroisePending = false) : (afterInput b s).fmn.zeroisePending = false := by
  cases b with
  | false => exact h
  | true => rfl

/-- A start-up in which no write fails, of a part without quotes: what the tamper input asks, the change, the free pool, the self-test and
the roll (R164). -/
theorem startZeroise_sound {s : State} (hquotes : ∀ k, s.quoteAt k = none) (hserving : s.serving = none)
    (hpending : s.fmn.zeroisePending = false) (hw : s.env.storeFails = []) (htest : s.env.testFails = [])
    (hfits : s.dir.change.all s.dir.fits = true) :
    ∃ free clk ttb, (∀ n, n ∈ free ↔ n < 4096 ∧ ∀ e ∈ s.dir.listing, e.slot ≠ n) ∧
      startZeroise s = (((rebuilt free (afterInput s.tamper s)).withClk clk).withTtb ttb).withStartUp .done ∧
      (s.clk.boundary.all (fun b => decide (s.clk.minute < b)) = true → clk = s.clk ∧ ttb = s.ttb) ∧
      ∀ b, s.clk.boundary = some b → b ≤ s.clk.minute →
        clk = { s.clk with month := min (s.clk.month + 1) 4095, boundary := none, rollWaiting := false } ∧ ttb = rolledTtb s := by
  have hdirectory := startDirectory_completed (s := afterInput s.tamper s) hw htest hfits
  have hlisting : (afterInput s.tamper s).dir.listing = s.dir.listing := rfl
  rw [hlisting] at hdirectory
  rw [startZeroise_noFailure hquotes hserving hw, hdirectory]
  refine ⟨unnamed s.dir.listing, ?_⟩
  have hmem : ∀ n, n ∈ unnamed s.dir.listing ↔ n < 4096 ∧ ∀ e ∈ s.dir.listing, e.slot ≠ n := fun n => mem_unnamed
  generalize unnamed s.dir.listing = free at hmem ⊢
  have hready := startRoll_sound (s := rebuilt free (afterInput s.tamper s))
  simp only [rolledTtb, rebuilt_keeps, afterInput_keeps] at hready
  replace hready := hready hw (afterInput_pending _ hpending)
  obtain ⟨clk, ttb, hroll, hahead, hrolls⟩ := hready
  exact ⟨clk, ttb, hmem, hroll, hahead, hrolls⟩

theorem exec_powerOnReset_eq (s : State) : exec .powerOnReset s = .next (startZeroise (powerOnValues s)) := rfl

/-- A zeroise's write made again at a part whose start-up waits for it alone: start-up goes on. -/
theorem exec_zeroiseRetry_last {s u : State} (hsupply : s.supply = true) (hpending : s.fmn.zeroisePending = true)
    (hlast : s.startUp = .last) (hw : drawWrite s = (false, u)) : exec .zeroiseRetry s = .next (startRoll (afterInput true u)) := by
  have hlast' : (afterInput true u).startUp = .last := by
    rw [drawWrite_frame hw]
    exact hlast
  rw [exec_zeroiseRetry_eq hsupply hpending, zeroiseWrite_made hw]
  exact congrArg _ (resumeStartUp_last rfl hlast')

/-- Settles O54. -/
theorem powerOnReset : Obligations.PowerOnReset := by
  intro s
  have hquotes := powerOnValues_quoteAt s
  refine ⟨fun htamper hchange htest hahead => ?_, fun hw htest hordered => ?_, fun hw htest hwork => ?_,
    fun u hsupply hlast hpending hahead hw => ?_, fun b hsupply hlast hpending hb hle hw => ?_, fun c t hoff hc ht => ?_, ?_⟩
  · obtain ⟨free, hmem, hstart⟩ := startZeroise_quiet (s := powerOnValues s) htamper hchange htest rfl (boundaryReached_before hahead)
    have hdir : (⟨s.dir.listing, none⟩ : Dir) = s.dir := listing_of_noChange hchange
    rw [exec_powerOnReset_eq, hstart]
    refine ⟨_, rfl, rfl, rfl, rfl, rfl, rfl, rfl, rfl, rfl, rfl, powerOnValues_review s, rfl, rfl, rfl, rfl, rfl, rfl, fun n => ?_, hdir,
      rfl, rfl, rfl⟩
    rw [← listing_entries hchange]
    exact hmem n
  · obtain ⟨-, hfits, -⟩ := hordered
    obtain ⟨free, clk, ttb, hmem, hstart, hahead, hrolls⟩ :=
      startZeroise_sound (s := powerOnValues s) hquotes rfl rfl hw htest hfits
    rw [exec_powerOnReset_eq, hstart]
    obtain ⟨hzks, hfmn⟩ := afterInput_powerOn s.tamper s
    exact ⟨_, rfl, rfl, rfl, rfl, rfl, rfl, rfl, rfl, rfl, rfl, rfl, powerOnValues_review s, rfl, rfl, rfl, congrArg Zks.erasing hzks, hmem,
      rfl, rfl, (congrArg Zks.slots hzks :), (congrArg Zks.zones hzks :), hfmn, hahead, hrolls⟩
  · rw [exec_powerOnReset_eq]
    refine ⟨_, rfl, startZeroise_heldUp hquotes rfl ⟨rfl, rfl, rfl, rfl⟩ hw htest (hwork.imp id (Or.imp Option.isSome_iff_ne_none.mp ?_))⟩
    rintro ⟨b, hb, hle⟩
    exact (boundaryReached_some (c := (powerOnValues s).clk) hb).trans (decide_eq_true hle)
  · rw [exec_zeroiseRetry_last hsupply hpending hlast hw]
    obtain ⟨v, rfl⟩ : ∃ v, u = s.withEnv v := ⟨_, drawWrite_frame hw⟩
    rw [startRoll_done (s := afterInput true (s.withEnv v)) rfl (boundaryReached_ahead hahead)]
    exact ⟨_, rfl, rfl⟩
  · rw [exec_zeroiseRetry_last hsupply hpending hlast (drawWrite_made hw)]
    obtain ⟨clk, ttb, hroll, -, hrolls⟩ := startRoll_sound (s := afterInput true s) hw rfl
    obtain ⟨hclk, -⟩ := hrolls b hb hle
    rw [hroll, hclk]
    exact ⟨_, rfl, rfl, rfl, rfl⟩
  · have hoff' := exec_off hoff hc ht
    exact ⟨hoff', nextLane_of_notRunning (running_off hoff')⟩
  · exact ⟨_, rfl, rfl, nextLane_of_notRunning (running_off rfl), rfl, rfl, rfl, rfl, rfl, rfl, rfl, rfl, rfl, rfl, rfl, rfl, rfl, rfl, rfl⟩

end Sys2Proof.Machine.StartUpWork
